-- ==== Sys2Proof/Word.lean ====
section
/-! DEFINITION. The words, bytes and one-bit quantities of `OOKFC` (spec/00_scope.md R7, R9;
spec/10_state.md). Every number of the hardware is unsigned; bit 0 is the least significant bit. -/

namespace Sys2Proof

/-- A command word and the `rdata` field of a response: 32 bits (30_encoding.md R80, R93). -/
abbrev Word := BitVec 32

/-- A duration, a window bound, a threshold, a run length and a profile register: `DUR_BITS` = 16
bits, unsigned (00_scope.md R5). -/
abbrev Duration := BitVec 16

/-- A byte of `FRAMEBUF`, `TXBUF` or the sample stream; "the high bit" is bit 7 (00_scope.md R7). -/
abbrev Byte := BitVec 8

/-- A signal level (00_scope.md R9): `mark` is 1, carrier on; `space` is 0, carrier off. -/
inductive Level where
  | space
  | mark
deriving DecidableEq, Repr

/-- The two byte memories (20_memory.md R60). The other two index spaces are register banks. -/
inductive MemSpace where
  | frameBuf
  | txBuf
deriving DecidableEq, Repr

end Sys2Proof
end

