-- ==== Sys2Proof/Syntax.lean ====
section
/-! DEFINITION. The twelve commands of `OOKFC` (spec/30_encoding.md R83, spec/opcode_table.json),
each with the operand fields of its format (R81, R82). -/

namespace Sys2Proof

/-- One constructor per row of the opcode table, in the table's order of opcodes. -/
inductive Instr where
  /-- `NOP`, format Z (40_control.md R101). -/
  | nop
  /-- `RESET`, format Z (40_control.md R107). -/
  | reset
  /-- `CFGW idx, val`, format C (40_control.md R102). -/
  | cfgw (idx : BitVec 5) (val : Duration)
  /-- `CFGR idx`, format I (40_control.md R103). -/
  | cfgr (idx : BitVec 5)
  /-- `ENABLE`, format Z (40_control.md R104). -/
  | enable
  /-- `DISABLE`, format Z (40_control.md R105). -/
  | disable
  /-- `FEED lvl, dur`, format F (41_receive.md R120). -/
  | feed (lvl : Level) (dur : Duration)
  /-- `SAMPLE smp`, format S (42_sample_adapter.md R150). -/
  | sample (smp : Byte)
  /-- `TXLOAD addr, data`, format B (43_transmit.md R160). -/
  | txload (addr : BitVec 8) (data : Byte)
  /-- `TXSTART len`, format L (43_transmit.md R161). -/
  | txstart (len : BitVec 8)
  /-- `TXSTEP`, format Z (43_transmit.md R162). -/
  | txstep
  /-- `STRD idx`, format I (40_control.md R106). -/
  | strd (idx : BitVec 5)
deriving DecidableEq, Repr

end Sys2Proof
end

