-- ==== Sys2Proof/Decode.lean ====
section
/-! DEFINITION. The decoder (spec/30_encoding.md R80 to R84, R90, R91), total on every 32-bit word and
rejecting by name, and after it the encoder. A command is one 32-bit word presented whole, so there is
no byte order to choose (20_memory.md R65; log 13). -/

namespace Sys2Proof

/-- Why a word is no command. The machine answers both with the status `ILLEGAL`. -/
inductive DecodeError where
  /-- The opcode is 0xC to 0xF (30_encoding.md R90). -/
  | reservedOpcode
  /-- The opcode is 0x0 to 0xB and a bit its format marks 0 is 1 (30_encoding.md R91). -/
  | reservedBit
deriving DecidableEq, Repr

/-- The level a `lvl` bit names: 1 mark, 0 space (30_encoding.md R82, 00_scope.md R9). -/
def levelOfBit (b : Bool) : Level := if b then .mark else .space

/-- The bit that names a level (00_scope.md R9). -/
def Level.bit : Level → Bool
  | .space => false
  | .mark => true

/-- `w[lo + n - 1 : lo]` (00_scope.md R7). -/
def field (w : Word) (lo n : Nat) : BitVec n := w.extractLsb' lo n

/-- The command `i`, provided the reserved bits of its format are all 0 (30_encoding.md R91). -/
def unlessReserved (reservedZero : Bool) (i : Instr) : Except DecodeError Instr :=
  if reservedZero then .ok i else .error .reservedBit

/-- Decoding by opcode and format (30_encoding.md R81, R83): the opcode is bits 31:28; each arm names
the bits its format reserves and reads the operand fields. -/
def decode (w : Word) : Except DecodeError Instr :=
  match (field w 28 4).toNat with
  | 0x0 => unlessReserved (field w 0 28 == 0) .nop
  | 0x1 => unlessReserved (field w 0 28 == 0) .reset
  | 0x2 => unlessReserved (field w 21 7 == 0) (.cfgw (field w 16 5) (field w 0 16))
  | 0x3 => unlessReserved (field w 21 7 == 0 && field w 0 16 == 0) (.cfgr (field w 16 5))
  | 0x4 => unlessReserved (field w 0 28 == 0) .enable
  | 0x5 => unlessReserved (field w 0 28 == 0) .disable
  | 0x6 => unlessReserved (field w 17 11 == 0) (.feed (levelOfBit (w.getLsbD 16)) (field w 0 16))
  | 0x7 => unlessReserved (field w 8 20 == 0) (.sample (field w 0 8))
  | 0x8 =>
    unlessReserved (field w 24 4 == 0 && field w 8 8 == 0) (.txload (field w 16 8) (field w 0 8))
  | 0x9 => unlessReserved (field w 8 20 == 0) (.txstart (field w 0 8))
  | 0xA => unlessReserved (field w 0 28 == 0) .txstep
  | 0xB => unlessReserved (field w 21 7 == 0 && field w 0 16 == 0) (.strd (field w 16 5))
  | _ => .error .reservedOpcode

/-- The decoder on an instruction given as `nbits` bits in a number, every bit above them 0. A command
has 32 bits, the width the opcode table gives every row. -/
def decodeTableWord (nbits w : Nat) : Option Instr :=
  match decode (BitVec.ofNat 32 (w % 2 ^ nbits)) with
  | .ok i => some i
  | .error _ => none

/-- Format Z: opcode, 28 reserved bits (30_encoding.md R81). -/
def formatZ (op : BitVec 4) : Word := op ++ 0#28

/-- Formats C and I: opcode, 7 reserved bits, index, value (in format I the value bits are reserved). -/
def formatC (op : BitVec 4) (idx : BitVec 5) (val : BitVec 16) : Word := op ++ 0#7 ++ idx ++ val

/-- Format F: opcode, 11 reserved bits, level, duration. -/
def formatF (op : BitVec 4) (lvl : Bool) (dur : BitVec 16) : Word :=
  op ++ 0#11 ++ BitVec.ofBool lvl ++ dur

/-- Formats S and L: opcode, 20 reserved bits, one byte. -/
def formatS (op : BitVec 4) (b : BitVec 8) : Word := op ++ 0#20 ++ b

/-- Format B: opcode, 4 reserved bits, address, 8 reserved bits, data. -/
def formatB (op : BitVec 4) (addr data : BitVec 8) : Word := op ++ 0#4 ++ addr ++ 0#8 ++ data

/-- The word that spells a command, its fields laid out as in 30_encoding.md R81 and its opcode as in
R83. -/
def encode : Instr → Word
  | .nop => formatZ 0x0#4
  | .reset => formatZ 0x1#4
  | .cfgw idx val => formatC 0x2#4 idx val
  | .cfgr idx => formatC 0x3#4 idx 0#16
  | .enable => formatZ 0x4#4
  | .disable => formatZ 0x5#4
  | .feed lvl dur => formatF 0x6#4 lvl.bit dur
  | .sample smp => formatS 0x7#4 smp
  | .txload addr data => formatB 0x8#4 addr data
  | .txstart len => formatS 0x9#4 len
  | .txstep => formatZ 0xA#4
  | .strd idx => formatC 0xB#4 idx 0#16

end Sys2Proof
end

