-- ==== Sys2Proof/Config.lean ====
section
/-! DEFINITION. What an implementation fixes (spec/00_scope.md R5) and the one value the spec leaves
free (spec/93_implementation_defined.md U2, U3). The widths of R5 stand in the types of
Machine/State.lean and Syntax.lean: `DUR_BITS` and `ERRCNT_BITS` 16, `CMD_BITS` 32, `STATUS_BITS` 4,
`RDATA_BITS` 32; `HAS_TRACE` is false, so no trace ring is state (log 10). -/

namespace Sys2Proof

/-- `CFG_COUNT`: the number of profile registers (00_scope.md R5, 10_state.md R24). -/
abbrev Config.cfgCount : Nat := 19

/-- The number of status registers `STRD` can read (10_state.md R48, 20_memory.md R60). -/
abbrev Config.statCount : Nat := 17

/-- `FRAME_BUF_BYTES` and `TX_BUF_BYTES`: the bytes of each memory, addresses 0 to 31
(00_scope.md R5, 20_memory.md R60). -/
abbrev Config.bufBytes : MemSpace → Nat
  | .frameBuf => 32
  | .txBuf => 32

/-- `SA_IDLE_TIMEOUT`, the one parameter meant to vary, at the value the spec takes
(00_scope.md R5, 92_eei_decisions.md D24). Everything that depends on it takes it as an argument, so
both values are modelled; this constant is the instance's choice. DESIGN CHOICE (log 5). -/
def Config.saIdleTimeout : Bool := true

/-- FREE VALUE: the byte an address of a memory holds that nothing has written since the memories
last became unspecified; the second argument counts how often they did. No body: it can be any value
(93_implementation_defined.md U2, U3; 10_state.md R37, R45; log 3). -/
opaque Config.unwrittenByte : MemSpace → Nat → Nat → Byte

end Sys2Proof
end

