-- ==== Sys2Proof/Machine/State.lean ====
section
/-! DEFINITION. The state of one `OOKFC` instance (spec/10_state.md R20 to R52), the reasons a step can
stop, and the state after reset. State is plain data, grouped as R20 groups it: the receive session, the
diagnostics, the transmit session, the adapter. -/

namespace Sys2Proof.Machine

/-- `rx_state` (10_state.md R30); the code 3 is never produced, so it has no constructor (log 14). -/
inductive RxState where
  | unsynced
  | syncing
  | synced
deriving DecidableEq, Repr

/-- `tx_state` (10_state.md R40). -/
inductive TxState where
  | idle
  | sync
  | data
  | done
deriving DecidableEq, Repr

/-- `last_err` (10_state.md R39); the codes 5 to 7 are never produced (log 14). -/
inductive ErrCode where
  | noError
  | tie
  | syncFail
  | parityErr
  | overflow
deriving DecidableEq, Repr

/-- The status of a response (30_encoding.md R93); the codes 7 to 15 are never produced. -/
inductive Status where
  | ok
  | illegal
  | badRange
  | notEnabled
  | locked
  | badProfile
  | txBusy
deriving DecidableEq, Repr

/-- What the two output ports show: a frame event `FRAME(ch, n, bytes)` (20_memory.md R66) or the
response of a command (30_encoding.md R80, R93). -/
inductive PortEvent where
  | frame (ch : Byte) (n : Nat) (bytes : List Byte)
  | response (status : Status) (rdata : Word)
deriving DecidableEq, Repr

/-- What reaches the machine from outside: a command word on the command port (30_encoding.md R80), or
hardware reset (70_reset_and_hazards.md R200). -/
inductive PortInput where
  | command (w : Word)
  | hardReset
deriving DecidableEq, Repr

/-- The profile bank `cfg[0..18]` (10_state.md R24). -/
abbrev Profile := Vector Duration Config.cfgCount

/-- A byte memory: its listed bytes, addresses strictly rising. An unlisted address holds no value
that anything wrote (log 4). -/
abbrev Memory := List Host.Cell

/-- The receive session less `FRAMEBUF` (10_state.md R30 to R36). -/
structure RxSession where
  state : RxState
  syncCnt : BitVec 8
  bitCnt : BitVec 4
  acc : Byte
  par : Bool
  len : BitVec 6
  zv : Bool
  ov : Bool
  markSeen : Bool
deriving DecidableEq, Repr

/-- The diagnostics (10_state.md R38, R39). -/
structure Diagnostics where
  errCnt : BitVec 16
  lastErr : ErrCode
deriving DecidableEq, Repr

/-- The transmit session less `TXBUF` (10_state.md R40 to R44): `tx_state`, `tx_byte`, `tx_bit`,
`tx_par`, `tx_len`. -/
structure TxSession where
  state : TxState
  byteIdx : BitVec 6
  bitIdx : BitVec 8
  par : Bool
  len : BitVec 6
deriving DecidableEq, Repr

/-- The adapter state (10_state.md R46). -/
structure Adapter where
  valid : Bool
  level : Level
  run : Duration
deriving DecidableEq, Repr

/-- The whole machine. The first eight fields are the spec's state (10_state.md R20); `epoch`, `inputs`
and `outputs` are the model's own (log 1, 2, 3): how often the memories became unspecified, what the host
is still to present, and what the output ports have shown, oldest first (20_memory.md R70). -/
structure State where
  en : Bool
  cfg : Profile
  rx : RxSession
  frameBuf : Memory
  diag : Diagnostics
  tx : TxSession
  txBuf : Memory
  sa : Adapter
  epoch : Nat
  inputs : List PortInput
  outputs : List PortEvent
deriving DecidableEq, Repr

/-- Why the machine stops. Each names a case for which the spec has no rule because no run reaches it
(41_receive.md R138, R139; 43_transmit.md R174; log 6): the invariant of Safety.lean excludes all of
them. All are safe: the model stops where the hardware, if it were ever there, would go on. -/
inductive Fault where
  /-- Raised by `memWrite` and by the flush: an access to an address of a memory that does not exist,
  32 or above (20_memory.md R60, R61, R62). Safe. -/
  | noSuchAddress (space : MemSpace) (addr : Nat)
  /-- Raised by `rxDataBit`: `rx_bitcnt` exceeds `cfg.BITS`, for which 41_receive.md R131 and R132 have
  no case. Safe. -/
  | rxBitCount
  /-- Raised by `rxDataBit` and `txStep`: a check bit is due and `cfg.PARITY` is none of 1 to 4, for
  which 41_receive.md R132 and 43_transmit.md R171 have no case. Safe. -/
  | parityCode
  /-- Raised by `txStep` in `Data`: `tx_byte` exceeds `tx_len` or `tx_bit` exceeds `cfg.BITS`, for which
  43_transmit.md R165 to R167 have no case. Safe. -/
  | txIndex
deriving DecidableEq, Repr

/-- Why an instruction has no meaning. No arm of `exec` answers with it: every command has one. -/
inductive Refusal where
  /-- Raised by an arm of `exec` whose instruction has no meaning yet. Safe. -/
  | notModelled (mnemonic : String)
deriving DecidableEq, Repr

/-- What one step answers. -/
abbrev Answer := Host.Outcome State Fault Refusal

/-- The receive session after `rx_init` (40_control.md R108). -/
def RxSession.initial : RxSession where
  state := .unsynced
  syncCnt := 0
  bitCnt := 0
  acc := 0
  par := false
  len := 0
  zv := false
  ov := false
  markSeen := false

/-- The transmit session after `tx_init` (40_control.md R108). -/
def TxSession.initial : TxSession where
  state := .idle
  byteIdx := 0
  bitIdx := 0
  par := false
  len := 0

/-- The adapter after `sa_init` (40_control.md R108). -/
def Adapter.initial : Adapter where
  valid := false
  level := .space
  run := 0

/-- The diagnostics after reset (10_state.md R52). -/
def Diagnostics.initial : Diagnostics where
  errCnt := 0
  lastErr := .noError

/-- The all-zero profile of reset (10_state.md R28). -/
def Profile.zero : Profile := Vector.replicate Config.cfgCount 0

/-- The machine right after hardware reset (10_state.md R52, 70_reset_and_hazards.md R200). Nothing is
listed in the memories, which are unspecified. The last three fields are the model's (DESIGN CHOICE,
log 1, 2, 3). -/
def State.reset : State where
  en := false
  cfg := Profile.zero
  rx := RxSession.initial
  frameBuf := []
  diag := Diagnostics.initial
  tx := TxSession.initial
  txBuf := []
  sa := Adapter.initial
  epoch := 0
  inputs := []
  outputs := []

end Sys2Proof.Machine
end

