-- ==== Sys2Proof/Machine/Flags.lean ====
section
/-! DEFINITION. The one-bit results of `OOKFC`: window membership and votes, parity, the saturating
increment, and the numeric codes of states, errors and statuses. All arithmetic is unsigned
(spec/41_receive.md R139, spec/43_transmit.md R174). -/

namespace Sys2Proof.Machine

/-- `inwin(d, lo, hi)`: unsigned, both ends inclusive; false for every `d` if `lo > hi`
(41_receive.md R123). -/
def inwin (d lo hi : Duration) : Bool := decide (lo ≤ d) && decide (d ≤ hi)

/-- `sat_inc_16(v)`: one more, staying at 65535 (00_scope.md R8). -/
def satInc (v : BitVec 16) : BitVec 16 := if v = 0xFFFF#16 then v else v + 1#16

/-- The sum of the two votes of a bit period for one value: 0, 1 or 2 (41_receive.md R127). -/
def voteSum (mark space : Bool) : Nat := mark.toNat + space.toNat

/-- Whether the check bit `b` satisfies the parity mode, given the XOR `p` of the data bits: Odd, Even,
Mark, Space; no answer for a mode that has no check bit (41_receive.md R132). -/
def checkOk (mode : Duration) (p b : Bool) : Option Bool :=
  match mode.toNat with
  | 1 => some ((p ^^ b) == true)
  | 2 => some ((p ^^ b) == false)
  | 3 => some (b == true)
  | 4 => some (b == false)
  | _ => none

/-- `checkbit(mode, p)`, the check bit to send; no answer for a mode that has none
(43_transmit.md R171). -/
def checkBit (mode : Duration) (p : Bool) : Option Bool :=
  match mode.toNat with
  | 1 => some (!p)
  | 2 => some p
  | 3 => some true
  | 4 => some false
  | _ => none

/-- The code of `rx_state` (10_state.md R30). -/
def RxState.code : RxState → Nat
  | .unsynced => 0
  | .syncing => 1
  | .synced => 2

/-- The code of `tx_state` (10_state.md R40). -/
def TxState.code : TxState → Nat
  | .idle => 0
  | .sync => 1
  | .data => 2
  | .done => 3

/-- The code of `last_err` (10_state.md R39). -/
def ErrCode.code : ErrCode → Nat
  | .noError => 0
  | .tie => 1
  | .syncFail => 2
  | .parityErr => 3
  | .overflow => 4

/-- The four bits of a status (30_encoding.md R93). -/
def Status.code : Status → BitVec 4
  | .ok => 0
  | .illegal => 1
  | .badRange => 2
  | .notEnabled => 3
  | .locked => 4
  | .badProfile => 5
  | .txBusy => 6

end Sys2Proof.Machine
end

