-- ==== Sys2Proof/Machine/Operands.lean ====
section
/-! DEFINITION. The operand forms of the commands: named profile registers, index and range checks,
the level of a sample, the status map, the bits and pairs of a byte on the air. -/

namespace Sys2Proof.Machine

/-! ### The named profile registers (spec/10_state.md R24) -/

/-- `cfg[0]`, `R_MIN_ZERO_MARK`. -/
def Profile.rMinZeroMark (pf : Profile) : Duration := pf[0]
/-- `cfg[1]`, `R_MIN_ZERO_SPACE`. -/
def Profile.rMinZeroSpace (pf : Profile) : Duration := pf[1]
/-- `cfg[2]`, `R_MIN_ONE_MARK`. -/
def Profile.rMinOneMark (pf : Profile) : Duration := pf[2]
/-- `cfg[3]`, `R_MIN_ONE_SPACE`. -/
def Profile.rMinOneSpace (pf : Profile) : Duration := pf[3]
/-- `cfg[4]`, `R_MAX_ZERO_MARK`. -/
def Profile.rMaxZeroMark (pf : Profile) : Duration := pf[4]
/-- `cfg[5]`, `R_MAX_ZERO_SPACE`. -/
def Profile.rMaxZeroSpace (pf : Profile) : Duration := pf[5]
/-- `cfg[6]`, `R_MAX_ONE_MARK`. -/
def Profile.rMaxOneMark (pf : Profile) : Duration := pf[6]
/-- `cfg[7]`, `R_MAX_ONE_SPACE`. -/
def Profile.rMaxOneSpace (pf : Profile) : Duration := pf[7]
/-- `cfg[8]`, `W_ZERO_MARK`. -/
def Profile.wZeroMark (pf : Profile) : Duration := pf[8]
/-- `cfg[9]`, `W_ZERO_SPACE`. -/
def Profile.wZeroSpace (pf : Profile) : Duration := pf[9]
/-- `cfg[10]`, `W_ONE_MARK`. -/
def Profile.wOneMark (pf : Profile) : Duration := pf[10]
/-- `cfg[11]`, `W_ONE_SPACE`. -/
def Profile.wOneSpace (pf : Profile) : Duration := pf[11]
/-- `cfg[12]`, `IDLE`. -/
def Profile.idle (pf : Profile) : Duration := pf[12]
/-- `cfg[13]`, `BITS`. -/
def Profile.bits (pf : Profile) : Duration := pf[13]
/-- `cfg[14]`, `PARITY`: 0 None, 1 Odd, 2 Even, 3 Mark, 4 Space (10_state.md R27). -/
def Profile.parity (pf : Profile) : Duration := pf[14]
/-- `cfg[15]`, `ORDER`: 0 LSB-first, 1 MSB-first (10_state.md R27). -/
def Profile.order (pf : Profile) : Duration := pf[15]
/-- `cfg[16]`, `SYNC`. -/
def Profile.sync (pf : Profile) : Duration := pf[16]
/-- `cfg[17]`, `MAXFRAME`. -/
def Profile.maxFrame (pf : Profile) : Duration := pf[17]
/-- `cfg[18]`, `CHID`. -/
def Profile.chid (pf : Profile) : Duration := pf[18]

/-- `profile_ok()` (spec/40_control.md R104). -/
def profileOk (pf : Profile) : Bool :=
  decide (1 ≤ pf.bits.toNat) && decide (pf.bits.toNat ≤ 8)
    && decide (pf.parity.toNat ≤ 4)
    && decide (pf.order.toNat ≤ 1)
    && decide (pf.sync.toNat ≤ 255)
    && decide (1 ≤ pf.maxFrame.toNat) && decide (pf.maxFrame.toNat ≤ Config.bufBytes .frameBuf)
    && decide (pf.chid.toNat ≤ 255)
    && decide (pf.rMaxZeroMark ≤ pf.idle)
    && decide (pf.rMaxZeroSpace ≤ pf.idle)
    && decide (pf.rMaxOneMark ≤ pf.idle)
    && decide (pf.rMaxOneSpace ≤ pf.idle)
    && decide (1 ≤ pf.wZeroMark.toNat)
    && decide (1 ≤ pf.wOneMark.toNat)

/-! ### Indices, addresses, lengths (spec/30_encoding.md R82, R92) -/

/-- The profile register an `idx` selects; none from 19 up (30_encoding.md R92). -/
def cfgIndex (idx : BitVec 5) : Option (Fin Config.cfgCount) :=
  if h : idx.toNat < Config.cfgCount then some ⟨idx.toNat, h⟩ else none

/-- Whether a `TXLOAD` address is in range: 0 to 31. -/
def txAddrOk (addr : BitVec 8) : Bool := decide (addr.toNat < Config.bufBytes .txBuf)

/-- Whether a `TXSTART` length is in range: 0 to 32. -/
def txLenOk (len : BitVec 8) : Bool := decide (len.toNat ≤ Config.bufBytes .txBuf)

/-- The seventeen status registers (10_state.md R48). -/
inductive StatReg where
  | en | rxState | rxSyncCnt | rxBitcnt | rxAcc | rxPar | rxLen | rxVotes | errcnt | lasterr
  | txState | txByte | txBit | txPar | txLen | saFlags | saRun
deriving DecidableEq, Repr

/-- The status register a `STRD` index selects; none from 17 up (10_state.md R48). -/
def statIndex (idx : BitVec 5) : Option StatReg :=
  match idx.toNat with
  | 0 => some .en
  | 1 => some .rxState
  | 2 => some .rxSyncCnt
  | 3 => some .rxBitcnt
  | 4 => some .rxAcc
  | 5 => some .rxPar
  | 6 => some .rxLen
  | 7 => some .rxVotes
  | 8 => some .errcnt
  | 9 => some .lasterr
  | 10 => some .txState
  | 11 => some .txByte
  | 12 => some .txBit
  | 13 => some .txPar
  | 14 => some .txLen
  | 15 => some .saFlags
  | 16 => some .saRun
  | _ => none

/-- `zext_32` of one bit. -/
def wordOfBit (b : Bool) : Word := (BitVec.ofBool b).setWidth 32

/-- The value `STRD` reads (10_state.md R48): every element zero-extended, or the packing shown there. -/
def statValue (s : State) : StatReg → Word
  | .en => wordOfBit s.en
  | .rxState => BitVec.ofNat 32 s.rx.state.code
  | .rxSyncCnt => s.rx.syncCnt.setWidth 32
  | .rxBitcnt => s.rx.bitCnt.setWidth 32
  | .rxAcc => s.rx.acc.setWidth 32
  | .rxPar => wordOfBit s.rx.par
  | .rxLen => s.rx.len.setWidth 32
  | .rxVotes =>
    (BitVec.ofBool s.rx.markSeen ++ BitVec.ofBool s.rx.ov ++ BitVec.ofBool s.rx.zv).setWidth 32
  | .errcnt => s.diag.errCnt.setWidth 32
  | .lasterr => BitVec.ofNat 32 s.diag.lastErr.code
  | .txState => BitVec.ofNat 32 s.tx.state.code
  | .txByte => s.tx.byteIdx.setWidth 32
  | .txBit => s.tx.bitIdx.setWidth 32
  | .txPar => wordOfBit s.tx.par
  | .txLen => s.tx.len.setWidth 32
  | .saFlags => (BitVec.ofBool s.sa.level.bit ++ BitVec.ofBool s.sa.valid).setWidth 32
  | .saRun => s.sa.run.setWidth 32

/-! ### Samples, bits and pairs -/

/-- The level of a sample: bit 7; bits 6:0 are ignored (spec/42_sample_adapter.md R151). -/
def sampleLevel (smp : Byte) : Level := levelOfBit (smp.getLsbD 7)

/-- Whether the first bit on the air is the most significant: `cfg.ORDER == 1`
(spec/20_memory.md R64). Any other code takes the other branch of the spec's `if` (log 8). -/
def msbFirst (pf : Profile) : Bool := pf.order == 1#16

/-- `rx_acc` after the data bit `b`, the `k`-th of its byte (spec/41_receive.md R131). -/
def shiftIn (pf : Profile) (acc : Byte) (k : Nat) (b : Bool) : Byte :=
  if msbFirst pf then (acc <<< 1) ||| (BitVec.ofBool b).setWidth 8
  else acc ||| ((BitVec.ofBool b).setWidth 8 <<< k)

/-- `txbit(v, i)`: the `i`-th data bit to emit of byte `v` (spec/43_transmit.md R170). -/
def txBitOf (pf : Profile) (v : Byte) (i : Nat) : Bool :=
  if msbFirst pf then v.getLsbD (pf.bits.toNat - 1 - i) else v.getLsbD i

/-- A `(mark_duration, space_duration)` result of `TX` (spec/43_transmit.md R162). -/
structure Pair where
  mark : Duration
  space : Duration
deriving DecidableEq, Repr

/-- `pair(b)` (43_transmit.md R169). -/
def pairOf (pf : Profile) (b : Bool) : Pair :=
  if b then ⟨pf.wOneMark, pf.wOneSpace⟩ else ⟨pf.wZeroMark, pf.wZeroSpace⟩

/-- The idle marker `(0, cfg.IDLE)` (43_transmit.md R169). -/
def idleMarker (pf : Profile) : Pair := ⟨0, pf.idle⟩

/-- The packing of a pair into `rdata`: mark in bits 31:16 (20_memory.md R65, 30_encoding.md R93). -/
def packPair (p : Pair) : Word := p.mark ++ p.space

end Sys2Proof.Machine
end

