-- ==== Sys2Proof/Machine/Ops.lean ====
section
/-! DEFINITION. The shared operations: the byte memories, the updates of State, answering and refusing a
command (spec/60_exceptions.md R181), the session initialisers (spec/40_control.md R108), the flush and
`rx_reset` (spec/41_receive.md R135), which is what the hardware has in place of taking an exception
(60_exceptions.md R189); there is no return from it (R190). Last, taking the next input. -/

namespace Sys2Proof.Machine

/-! ### The byte memories (spec/20_memory.md R60 to R62, R67) -/

/-- What was last written at an address, if anything was: the read of one byte of a memory. -/
def memGet (a : Nat) : Memory → Option Byte
  | [] => none
  | (b, v) :: m => if a = b then some v else memGet a m

/-- A memory with one byte written, addresses kept strictly rising. -/
def memPut (a : Nat) (v : Byte) : Memory → Memory
  | [] => [(a, v)]
  | (b, w) :: m =>
    if a < b then (a, v) :: (b, w) :: m
    else if a = b then (a, v) :: m
    else (b, w) :: memPut a v m

/-- Whether the addresses of a memory rise strictly from above `lo` and stay below `hi`. -/
def Memory.risingFrom (lo hi : Nat) : Memory → Bool
  | [] => true
  | (a, _) :: m => decide (lo ≤ a) && decide (a < hi) && Memory.risingFrom (a + 1) hi m

/-- The canonical form: addresses strictly rising, all of them addresses that exist. No entry can equal
what an unlisted address holds, which is no value. -/
def Memory.wf (space : MemSpace) (m : Memory) : Bool :=
  Memory.risingFrom 0 (Config.bufBytes space) m

/-- The contents of one of the two memories. -/
def State.mem (s : State) : MemSpace → Memory
  | .frameBuf => s.frameBuf
  | .txBuf => s.txBuf

/-- The byte at an address: the one last written there, or, where nothing has written since the
memories last became unspecified, a free value (93_implementation_defined.md U2, U3; log 3). -/
def State.byteAt (s : State) (space : MemSpace) (a : Nat) : Byte :=
  (memGet a (s.mem space)).getD (Config.unwrittenByte space s.epoch a)

/-- Bytes 0 to `n - 1` of a memory, in address order (20_memory.md R65). -/
def State.bytesUpTo (s : State) (space : MemSpace) (n : Nat) : List Byte :=
  (List.range n).map (s.byteAt space)

/-! ### Updates of State -/

/-- `en <- b`. -/
def State.setEn (s : State) (b : Bool) : State := { s with en := b }
/-- `cfg <- c`. -/
def State.setCfg (s : State) (c : Profile) : State := { s with cfg := c }
/-- The receive session takes new values. -/
def State.setRx (s : State) (r : RxSession) : State := { s with rx := r }
/-- The diagnostics take new values. -/
def State.setDiag (s : State) (d : Diagnostics) : State := { s with diag := d }
/-- The transmit session takes new values. -/
def State.setTx (s : State) (t : TxSession) : State := { s with tx := t }
/-- The adapter takes new values. -/
def State.setSa (s : State) (a : Adapter) : State := { s with sa := a }
/-- One of the two memories takes new contents. -/
def State.setMem (s : State) (space : MemSpace) (m : Memory) : State :=
  match space with
  | .frameBuf => { s with frameBuf := m }
  | .txBuf => { s with txBuf := m }
/-- Every byte of both memories becomes unspecified (40_control.md R107; log 3). -/
def State.forgetMemories (s : State) : State :=
  { s with frameBuf := [], txBuf := [], epoch := s.epoch + 1 }
/-- One event on an output port, after those already shown (20_memory.md R70). -/
def State.emit (s : State) (e : PortEvent) : State := { s with outputs := s.outputs ++ [e] }

/-- `MemRead(space, addr, 1)` (00_scope.md R8). -/
def memRead (space : MemSpace) (a : Nat) (s : State) : Except Fault Byte :=
  if a < Config.bufBytes space then .ok (s.byteAt space a) else .error (.noSuchAddress space a)

/-- `MemWrite(space, addr, 1, v)` (00_scope.md R8). -/
def memWrite (space : MemSpace) (a : Nat) (v : Byte) (s : State) : Except Fault State :=
  if a < Config.bufBytes space then .ok (s.setMem space (memPut a v (s.mem space)))
  else .error (.noSuchAddress space a)

/-! ### Answering (spec/00_scope.md R8, spec/60_exceptions.md R180, R181) -/

/-- `respond(status, rdata)`: the response that ends a command. -/
def respond (st : Status) (rdata : Word) (s : State) : Answer := .next (s.emit (.response st rdata))

/-- A refused command: the status, no data, and no change of any state (60_exceptions.md R181). -/
def refuse (st : Status) (s : State) : Answer := respond st 0 s

/-- `respond(OK, 0)`, or the fault of a state for which the spec has no rule. -/
def complete : Except Fault State → Answer
  | .ok s => respond .ok 0 s
  | .error f => .fault f

/-! ### Initialising (spec/40_control.md R108) -/

/-- `rx_init()`. The bytes of `FRAMEBUF` stay as they are: unobservable (U3; log 9). -/
def rxInit (s : State) : State := s.setRx RxSession.initial

/-- `sa_init()`. -/
def saInit (s : State) : State := s.setSa Adapter.initial

/-- `tx_init()`. -/
def txInit (s : State) : State := s.setTx TxSession.initial

/-- The three initialisers in the order `ENABLE`, `DISABLE` and reset run them. -/
def initSessions (s : State) : State := txInit (saInit (rxInit s))

/-- Every state element at its reset value (10_state.md R52, 70_reset_and_hazards.md R200): the body of
`RESET` and the whole of hardware reset. What the host is still to present and what the ports have
shown are no state and stay (10_state.md R51; log 2). -/
def resetAll (s : State) : State :=
  ((initSessions ((s.setEn false).setCfg Profile.zero)).setDiag Diagnostics.initial).forgetMemories

/-! ### Reset to `Unsynced` (spec/41_receive.md R135, spec/60_exceptions.md R189) -/

/-- The cause of an `rx_reset` (41_receive.md R135). -/
inductive ResetCause where
  | eof
  | tie
  | syncFail
  | parityErr
  | overflow
deriving DecidableEq, Repr

/-- `code(cause)`; end of frame is no error and has none (60_exceptions.md R182). -/
def ResetCause.errCode : ResetCause → Option ErrCode
  | .eof => none
  | .tie => some .tie
  | .syncFail => some .syncFail
  | .parityErr => some .parityErr
  | .overflow => some .overflow

/-- The frame event of the bytes accumulated so far (20_memory.md R66): channel `cfg.CHID[7:0]`, length
`rx_len`, the bytes of `FRAMEBUF` below it. -/
def frameEvent (s : State) : PortEvent :=
  .frame (s.cfg.chid.setWidth 8) s.rx.len.toNat (s.bytesUpTo .frameBuf s.rx.len.toNat)

/-- Flush: one frame event if at least one complete byte is held, else nothing (41_receive.md R135,
R136). A length above the memory's size, which no run reaches, faults. -/
def flush (s : State) : Except Fault State :=
  if s.rx.len.toNat = 0 then .ok s
  else if s.rx.len.toNat ≤ Config.bufBytes .frameBuf then .ok (s.emit (frameEvent s))
  else .error (.noSuchAddress .frameBuf (Config.bufBytes .frameBuf))

/-- The error record: the code, and one saturating increment of `err_cnt`; nothing for end of frame
(41_receive.md R135, 10_state.md R38, R39). -/
def recordCause (cause : ResetCause) (s : State) : State :=
  match cause.errCode with
  | none => s
  | some e => s.setDiag ⟨satInc s.diag.errCnt, e⟩

/-- `rx_reset(cause)`: flush, record, initialise, in that order (41_receive.md R135). It touches neither
`cfg`, `en`, the adapter nor the transmit session. -/
def rxReset (cause : ResetCause) (s : State) : Except Fault State :=
  match flush s with
  | .ok s1 => .ok (rxInit (recordCause cause s1))
  | .error f => .error f

/-! ### The command port (spec/20_memory.md R70) -/

/-- The next input the host presents and the state in which it runs; none if the host presents
nothing. -/
def nextInput (s : State) : Option (PortInput × State) :=
  match s.inputs with
  | [] => none
  | i :: rest => some (i, { s with inputs := rest })

end Sys2Proof.Machine
end

