-- ==== Sys2Proof/Machine/Control.lean ====
section
/-! DEFINITION. The control commands `NOP`, `RESET`, `CFGW`, `CFGR`, `ENABLE`, `DISABLE`, `STRD`
(spec/40_control.md R100 to R107). Each meaning makes the range check of R92 first and then its own state
checks in the order of spec/60_exceptions.md R187. -/

namespace Sys2Proof.Machine

/-- `NOP` (40_control.md R101). -/
def execNop (s : State) : Answer := respond .ok 0 s

/-- `RESET` (40_control.md R107, 70_reset_and_hazards.md R201). -/
def execReset (s : State) : Answer := respond .ok 0 (resetAll s)

/-- `CFGW idx, val` (40_control.md R102). -/
def execCfgw (idx : BitVec 5) (val : Duration) (s : State) : Answer :=
  match cfgIndex idx with
  | none => refuse .badRange s
  | some i => if s.en then refuse .locked s else respond .ok 0 (s.setCfg (s.cfg.set i val))

/-- `CFGR idx` (40_control.md R103). -/
def execCfgr (idx : BitVec 5) (s : State) : Answer :=
  match cfgIndex idx with
  | none => refuse .badRange s
  | some i => respond .ok (s.cfg[i].setWidth 32) s

/-- `ENABLE` (40_control.md R104). -/
def execEnable (s : State) : Answer :=
  if s.en then refuse .locked s
  else if profileOk s.cfg then respond .ok 0 (initSessions (s.setEn true))
  else refuse .badProfile s

/-- `DISABLE` (40_control.md R105). -/
def execDisable (s : State) : Answer :=
  if s.en then respond .ok 0 (initSessions (s.setEn false)) else refuse .notEnabled s

/-- `STRD idx` (40_control.md R106, 10_state.md R48). -/
def execStrd (idx : BitVec 5) (s : State) : Answer :=
  match statIndex idx with
  | none => refuse .badRange s
  | some r => respond .ok (statValue s r) s

end Sys2Proof.Machine
end

