-- ==== Sys2Proof/Machine/Receive.lean ====
section
/-! DEFINITION. The receive state machine and the command `FEED` (spec/41_receive.md R120 to R137). -/

namespace Sys2Proof.Machine

/-- `rx_byte_done()`: append, then test the new length against `cfg.MAXFRAME`
(41_receive.md R133, R134). -/
def rxByteDone (s : State) : Except Fault State :=
  match memWrite .frameBuf s.rx.len.toNat s.rx.acc s with
  | .error f => .error f
  | .ok s1 =>
    let s2 := s1.setRx { s1.rx with len := s1.rx.len + 1, acc := 0, bitCnt := 0, par := false }
    if s2.rx.len.toNat = s2.cfg.maxFrame.toNat then rxReset .overflow s2 else .ok s2

/-- `rx_sync_bit(b)` (41_receive.md R129, R130). -/
def rxSyncBit (b : Bool) (s : State) : Except Fault State :=
  if b then
    if s.cfg.sync.toNat ≤ s.rx.syncCnt.toNat then
      .ok (s.setRx { s.rx with state := .synced, syncCnt := 0, bitCnt := 0, acc := 0, par := false })
    else rxReset .syncFail s
  else
    .ok (s.setRx { s.rx with
      state := .syncing
      syncCnt := if s.rx.syncCnt.toNat < s.cfg.sync.toNat then s.rx.syncCnt + 1 else s.rx.syncCnt })

/-- The data-bit half of `rx_data_bit(b)` (41_receive.md R131). -/
def rxShiftBit (b : Bool) (s : State) : Except Fault State :=
  let s1 := s.setRx { s.rx with
    acc := shiftIn s.cfg s.rx.acc s.rx.bitCnt.toNat b
    par := s.rx.par ^^ b
    bitCnt := s.rx.bitCnt + 1 }
  if s1.rx.bitCnt.toNat = s1.cfg.bits.toNat ∧ s1.cfg.parity = 0 then rxByteDone s1 else .ok s1

/-- The check-bit half of `rx_data_bit(b)` (41_receive.md R132). -/
def rxCheckBit (b : Bool) (s : State) : Except Fault State :=
  match checkOk s.cfg.parity s.rx.par b with
  | none => .error .parityCode
  | some true => rxByteDone s
  | some false => rxReset .parityErr s

/-- `rx_data_bit(b)`: a data bit while `rx_bitcnt < cfg.BITS`, the check bit at `rx_bitcnt == cfg.BITS`
(41_receive.md R131, R132). Beyond, which no run reaches, there is no rule (log 6). -/
def rxDataBit (b : Bool) (s : State) : Except Fault State :=
  if s.rx.bitCnt.toNat < s.cfg.bits.toNat then rxShiftBit b s
  else if s.rx.bitCnt.toNat = s.cfg.bits.toNat then rxCheckBit b s
  else .error .rxBitCount

/-- `rx_bit(b)` (41_receive.md R128). -/
def rxBit (b : Bool) (s : State) : Except Fault State :=
  if s.rx.state = .synced then rxDataBit b s else rxSyncBit b s

/-- The zero votes `z` of a bit period whose space half lasts `d` (41_receive.md R121, R127). -/
def zeroVotes (s : State) (d : Duration) : Nat :=
  voteSum s.rx.zv (inwin d s.cfg.rMinZeroSpace s.cfg.rMaxZeroSpace)

/-- The one votes `o` of a bit period whose space half lasts `d` (41_receive.md R121, R127). -/
def oneVotes (s : State) (d : Duration) : Nat :=
  voteSum s.rx.ov (inwin d s.cfg.rMinOneSpace s.cfg.rMaxOneSpace)

/-- The mark half of a bit period, of any duration (41_receive.md R124, R125). -/
def rxMark (d : Duration) (s : State) : State :=
  s.setRx { s.rx with
    zv := inwin d s.cfg.rMinZeroMark s.cfg.rMaxZeroMark
    ov := inwin d s.cfg.rMinOneMark s.cfg.rMaxOneMark
    markSeen := true }

/-- The stored mark votes are consumed (41_receive.md R121, R127). -/
def clearVotes (s : State) : State :=
  s.setRx { s.rx with markSeen := false, zv := false, ov := false }

/-- The space half of a bit period, shorter than `cfg.IDLE` (41_receive.md R126, R127). -/
def rxSpace (d : Duration) (s : State) : Except Fault State :=
  if s.rx.markSeen then
    if zeroVotes s d = oneVotes s d then rxReset .tie (clearVotes s)
    else rxBit (decide (zeroVotes s d < oneVotes s d)) (clearVotes s)
  else .ok s

/-- `rx_feed(d, l)`: the idle test first, then the half the level names (41_receive.md R121, R122). -/
def rxFeed (d : Duration) (l : Level) (s : State) : Except Fault State :=
  match l with
  | .mark => .ok (rxMark d s)
  | .space => if s.cfg.idle ≤ d then rxReset .eof s else rxSpace d s

/-- `FEED lvl, dur` (41_receive.md R120). -/
def execFeed (lvl : Level) (dur : Duration) (s : State) : Answer :=
  if s.en then complete (rxFeed dur lvl s) else refuse .notEnabled s

end Sys2Proof.Machine
end

