-- ==== Sys2Proof/Machine/Sample.lean ====
section
/-! DEFINITION. The sample-stream-to-edge-event adapter and the command `SAMPLE`
(spec/42_sample_adapter.md R150 to R156). The parameter `SA_IDLE_TIMEOUT` is an argument here, so both of
its values have their meaning; `execSample` takes the instance's (log 5). -/

namespace Sys2Proof.Machine

/-- The idle timeout of a space run that grew from `old` to `new`: on, and `IDLE` reached by just this
sample (42_sample_adapter.md R153, R154). -/
def timesOut (timeout : Bool) (s : State) (old new : Duration) : Bool :=
  timeout && decide (s.sa.level = .space) && decide (old < s.cfg.idle) && decide (s.cfg.idle ≤ new)

/-- A sample at the level of the current run (42_sample_adapter.md R153). -/
def saSame (timeout : Bool) (s : State) : Except Fault State :=
  let s1 := s.setSa { s.sa with run := satInc s.sa.run }
  if timesOut timeout s s.sa.run s1.sa.run then rxFeed s1.sa.run .space s1 else .ok s1

/-- A sample at the other level: the finished run is reported and a new one starts
(42_sample_adapter.md R155). -/
def saEdge (l : Level) (s : State) : Except Fault State :=
  match rxFeed s.sa.run s.sa.level s with
  | .error f => .error f
  | .ok s1 => .ok (s1.setSa { s1.sa with level := l, run := 1 })

/-- `sa_sample(l)` (42_sample_adapter.md R152, R153, R155). -/
def saSample (timeout : Bool) (l : Level) (s : State) : Except Fault State :=
  if s.sa.valid then
    if l = s.sa.level then saSame timeout s else saEdge l s
  else .ok (s.setSa ⟨true, l, 1⟩)

/-- `SAMPLE smp` for a given `SA_IDLE_TIMEOUT` (42_sample_adapter.md R150). -/
def sampleWith (timeout : Bool) (smp : Byte) (s : State) : Answer :=
  if s.en then complete (saSample timeout (sampleLevel smp) s) else refuse .notEnabled s

/-- `SAMPLE smp` (42_sample_adapter.md R150) with the instance's `SA_IDLE_TIMEOUT`. -/
def execSample (smp : Byte) (s : State) : Answer := sampleWith Config.saIdleTimeout smp s

end Sys2Proof.Machine
end

