-- ==== Sys2Proof/Machine/Transmit.lean ====
section
/-! DEFINITION. The transmit state machine and the commands `TXLOAD`, `TXSTART`, `TXSTEP`
(spec/43_transmit.md R160 to R171). -/

namespace Sys2Proof.Machine

/-- `TXLOAD addr, data` (43_transmit.md R160). -/
def execTxload (addr : BitVec 8) (data : Byte) (s : State) : Answer :=
  if txAddrOk addr then
    if s.tx.state = .idle then complete (memWrite .txBuf addr.toNat data s) else refuse .txBusy s
  else refuse .badRange s

/-- `TXSTART len` (43_transmit.md R161). -/
def execTxstart (len : BitVec 8) (s : State) : Answer :=
  if txLenOk len then
    if s.en then
      if s.tx.state = .idle then
        respond .ok 0 (s.setTx ⟨.sync, 0, 0, false, len.setWidth 6⟩)
      else refuse .txBusy s
    else refuse .notEnabled s
  else refuse .badRange s

/-- A step in `Sync` (43_transmit.md R164). -/
def txSync (s : State) : Pair × State :=
  if s.tx.bitIdx.toNat < s.cfg.sync.toNat then
    (pairOf s.cfg false, s.setTx { s.tx with bitIdx := s.tx.bitIdx + 1 })
  else
    (pairOf s.cfg true, s.setTx { s.tx with state := .data, byteIdx := 0, bitIdx := 0, par := false })

/-- The transmit session moved on to the next byte (43_transmit.md R166, R167). -/
def nextByte (t : TxSession) : TxSession :=
  { t with byteIdx := t.byteIdx + 1, bitIdx := 0, par := false }

/-- A step in `Data` that emits a data bit (43_transmit.md R166). -/
def txDataBit (s : State) : Except Fault (Pair × State) :=
  match memRead .txBuf s.tx.byteIdx.toNat s with
  | .error f => .error f
  | .ok v =>
    let b := txBitOf s.cfg v s.tx.bitIdx.toNat
    let t := { s.tx with par := s.tx.par ^^ b, bitIdx := s.tx.bitIdx + 1 }
    .ok (pairOf s.cfg b,
      s.setTx (if t.bitIdx.toNat = s.cfg.bits.toNat ∧ s.cfg.parity = 0 then nextByte t else t))

/-- A step in `Data` that emits the check bit (43_transmit.md R167, R171). -/
def txCheckBit (s : State) : Except Fault (Pair × State) :=
  match checkBit s.cfg.parity s.tx.par with
  | none => .error .parityCode
  | some b => .ok (pairOf s.cfg b, s.setTx (nextByte s.tx))

/-- A step in `Data` (43_transmit.md R165 to R167). Past the end of the payload or of a byte, which no run
reaches, there is no rule (log 6). -/
def txData (s : State) : Except Fault (Pair × State) :=
  if s.tx.byteIdx = s.tx.len then .ok (pairOf s.cfg false, s.setTx { s.tx with state := .done })
  else if s.tx.len < s.tx.byteIdx then .error .txIndex
  else if s.tx.bitIdx.toNat < s.cfg.bits.toNat then txDataBit s
  else if s.tx.bitIdx.toNat = s.cfg.bits.toNat then txCheckBit s
  else .error .txIndex

/-- `tx_step()` by `tx_state` (43_transmit.md R163 to R168). -/
def txStep (s : State) : Except Fault (Pair × State) :=
  match s.tx.state with
  | .idle => .ok (idleMarker s.cfg, s)
  | .sync => .ok (txSync s)
  | .data => txData s
  | .done => .ok (idleMarker s.cfg, txInit s)

/-- `TXSTEP` (43_transmit.md R162). -/
def execTxstep (s : State) : Answer :=
  match txStep s with
  | .ok (p, s1) => respond .ok (packPair p) s1
  | .error f => .fault f

end Sys2Proof.Machine
end

