-- ==== Sys2Proof/Machine/Dispatch.lean ====
section
/-! DEFINITION. The meaning of each command of the opcode table, one arm per constructor of `Instr`. -/

namespace Sys2Proof.Machine

def exec (i : Instr) (s : State) : Host.Outcome State Fault Refusal :=
  match i with
  | .nop => Sys2Proof.Machine.execNop s
  | .reset => Sys2Proof.Machine.execReset s
  | .cfgw idx val => Sys2Proof.Machine.execCfgw idx val s
  | .cfgr idx => Sys2Proof.Machine.execCfgr idx s
  | .enable => Sys2Proof.Machine.execEnable s
  | .disable => Sys2Proof.Machine.execDisable s
  | .feed lvl dur => Sys2Proof.Machine.execFeed lvl dur s
  | .sample smp => Sys2Proof.Machine.execSample smp s
  | .txload addr data => Sys2Proof.Machine.execTxload addr data s
  | .txstart len => Sys2Proof.Machine.execTxstart len s
  | .txstep => Sys2Proof.Machine.execTxstep s
  | .strd idx => Sys2Proof.Machine.execStrd idx s

end Sys2Proof.Machine
end

