-- ==== Sys2Proof/Machine/Front.lean ====
section
/-! DEFINITION. What the front end does with an input that is no command of the table: an illegal word
(spec/40_control.md R100, spec/30_encoding.md R90, R91) and hardware reset
(spec/70_reset_and_hazards.md R200). -/

namespace Sys2Proof.Machine

/-- A word that spells no command, whichever way (30_encoding.md R90, R91): `respond(ILLEGAL, 0)`. -/
def answerIllegal (_why : DecodeError) (s : State) : Answer := refuse .illegal s

/-- Hardware reset (70_reset_and_hazards.md R200): the reset state, no frame event, no response. -/
def answerHardReset (s : State) : Answer := .next (resetAll s)

end Sys2Proof.Machine
end

