-- ==== Sys2Proof/Machine/Step.lean ====
section
/-! DEFINITION. One step: the host presents its next input and the machine takes it to completion
(spec/20_memory.md R70). With nothing presented the machine is quiescent (spec/60_exceptions.md R196). -/

namespace Sys2Proof.Machine

/-- One step of the machine (20_memory.md R68 to R70). -/
def step (s : State) : Host.Outcome State Fault Refusal :=
  match nextInput s with
  | none => .next s
  | some (.hardReset, s1) => answerHardReset s1
  | some (.command w, s1) =>
    match decode w with
    | .ok i => exec i s1
    | .error e => answerIllegal e s1

/-- The state in which the host presents the given word next (log 1). -/
def State.withFetchWord (s : State) (nbits w : Nat) : State :=
  { s with inputs := .command (BitVec.ofNat 32 (w % 2 ^ nbits)) :: s.inputs }

end Sys2Proof.Machine
end

