-- ==== Sys2Proof/Safety.lean ====
section
/-! DEFINITION. The terms claims are made in: the invariant of every state a run can reach, the runs of
several commands, and the results that several rules of the spec share, written out from the rules and
not from the meanings. -/

namespace Sys2Proof.Machine

/-! ### Runs and outputs -/

/-- Several commands one after the other: the left fold of the command rules (spec/20_memory.md R70). -/
def execAll : List Instr → State → Answer
  | [], s => .next s
  | i :: is, s =>
    match exec i s with
    | .next t => execAll is t
    | .fault f => .fault f
    | .refused r => .refused r

/-- Whether an event came out of the frame port (20_memory.md R66). -/
def PortEvent.isFrame : PortEvent → Bool
  | .frame _ _ _ => true
  | .response _ _ => false

/-- Whether a command can produce a frame event or a framing error: `FEED` and `SAMPLE` only
(20_memory.md R66, 60_exceptions.md R182). -/
def feedsRx : Instr → Bool
  | .feed _ _ => true
  | .sample _ => true
  | _ => false

/-- The state after a command that answered: one response after what the ports have shown. -/
abbrev answered (st : Status) (rdata : Word) (s : State) : State :=
  { s with outputs := s.outputs ++ [.response st rdata] }

/-! ### What a reset of the receive session does (spec/41_receive.md R135, R140) -/

/-- One more, saturating at 65535 (00_scope.md R8). -/
abbrev plusOneSat (v : BitVec 16) : BitVec 16 := if v.toNat < 65535 then v + 1 else v

/-- `FRAMEBUF[0 .. n-1]`. -/
abbrev frameBytes (s : State) (n : Nat) : List Byte := (List.range n).map (s.byteAt .frameBuf)

/-- The flush of R135: nothing with no complete byte, else the frame event of all of them. -/
abbrev flushed (s : State) : List PortEvent :=
  if s.rx.len = 0 then []
  else [.frame (s.cfg.chid.setWidth 8) s.rx.len.toNat (frameBytes s s.rx.len.toNat)]

/-- The diagnostics after a reset with the given error; none for end of frame. -/
abbrev recorded (e : Option ErrCode) (d : Diagnostics) : Diagnostics :=
  match e with
  | none => d
  | some e => ⟨plusOneSat d.errCnt, e⟩

/-- The receive session after `rx_init` (40_control.md R108). -/
abbrev rxCleared : RxSession := ⟨.unsynced, 0, 0, 0, false, 0, false, false, false⟩

/-- The transmit session after `tx_init` (40_control.md R108). -/
abbrev txCleared : TxSession := ⟨.idle, 0, 0, false, 0⟩

/-- The adapter after `sa_init` (40_control.md R108). -/
abbrev saCleared : Adapter := ⟨false, .space, 0⟩

/-- The state after `rx_reset` with the given error (41_receive.md R135). -/
abbrev afterRxReset (e : Option ErrCode) (s : State) : State :=
  { s with rx := rxCleared, diag := recorded e s.diag, outputs := s.outputs ++ flushed s }

/-! ### What a space event decides (spec/41_receive.md R121, R127) -/

/-- Zero votes and one votes of the bit period that a space of length `d` completes. -/
abbrev zVotes (s : State) (d : Duration) : Nat :=
  s.rx.zv.toNat + (decide (s.cfg[1] ≤ d ∧ d ≤ s.cfg[5])).toNat
@[inherit_doc zVotes]
abbrev oVotes (s : State) (d : Duration) : Nat :=
  s.rx.ov.toNat + (decide (s.cfg[3] ≤ d ∧ d ≤ s.cfg[7])).toNat

/-- A space event of length `d` completes a bit period: enabled, shorter than `IDLE`, a mark seen. -/
abbrev EndsPeriod (s : State) (d : Duration) : Prop :=
  s.en = true ∧ d < s.cfg[12] ∧ s.rx.markSeen = true

/-- A space event of length `d` decodes the bit `b`. -/
abbrev Decodes (s : State) (d : Duration) (b : Bool) : Prop :=
  EndsPeriod s d ∧ (if b then zVotes s d < oVotes s d else oVotes s d < zVotes s d)

/-- The receive session with its votes consumed. -/
abbrev votesUsed (r : RxSession) : RxSession := { r with zv := false, ov := false, markSeen := false }

/-- `rx_acc` after the next data bit (41_receive.md R131). -/
abbrev accWith (s : State) (b : Bool) : Byte :=
  if s.cfg[15] = 1 then (s.rx.acc <<< 1) ||| BitVec.ofNat 8 b.toNat
  else s.rx.acc ||| (BitVec.ofNat 8 b.toNat <<< s.rx.bitCnt.toNat)

/-- Whether a check bit satisfies its parity mode (41_receive.md R132). -/
abbrev Passes (mode : Duration) (p b : Bool) : Prop :=
  (mode = 1 ∧ (p ^^ b) = true) ∨ (mode = 2 ∧ (p ^^ b) = false) ∨ (mode = 3 ∧ b = true)
    ∨ (mode = 4 ∧ b = false)

/-- A space event of length `d` completes the byte `v`: with its last data bit where there is no check
bit, or with a check bit that passes (41_receive.md R131, R132). -/
abbrev CompletesByte (s : State) (d : Duration) (b : Bool) (v : Byte) : Prop :=
  Decodes s d b ∧ s.rx.state = .synced ∧ s.cfg[13].toNat ≤ 8 ∧
    ((s.rx.bitCnt.toNat + 1 = s.cfg[13].toNat ∧ s.cfg[14] = 0 ∧ v = accWith s b)
      ∨ (s.rx.bitCnt.toNat = s.cfg[13].toNat ∧ Passes s.cfg[14] s.rx.par b ∧ v = s.rx.acc))

/-! ### Profiles, words, the status map -/

/-- The clauses of `profile_ok` (spec/40_control.md R104) by register number. -/
abbrev LegalProfile (pf : Profile) : Prop :=
  (1 ≤ pf[13].toNat ∧ pf[13].toNat ≤ 8) ∧ pf[14].toNat ≤ 4 ∧ pf[15].toNat ≤ 1 ∧ pf[16].toNat ≤ 255
    ∧ (1 ≤ pf[17].toNat ∧ pf[17].toNat ≤ 32) ∧ pf[18].toNat ≤ 255
    ∧ pf[4] ≤ pf[12] ∧ pf[5] ≤ pf[12] ∧ pf[6] ≤ pf[12] ∧ pf[7] ≤ pf[12]
    ∧ 1 ≤ pf[8].toNat ∧ 1 ≤ pf[10].toNat

/-- The bits the format of an opcode reserves (spec/30_encoding.md R81). -/
def reservedBits (op : Nat) : Word :=
  match op with
  | 0x2 => 0x0FE00000#32
  | 0x3 => 0x0FE0FFFF#32
  | 0x6 => 0x0FFE0000#32
  | 0x7 => 0x0FFFFF00#32
  | 0x8 => 0x0F00FF00#32
  | 0x9 => 0x0FFFFF00#32
  | 0xB => 0x0FE0FFFF#32
  | _ => 0x0FFFFFFF#32

/-- The status register map, index and value read (spec/10_state.md R48). -/
def statTable (s : State) : List (Nat × Nat) :=
  [(0, s.en.toNat), (1, s.rx.state.code), (2, s.rx.syncCnt.toNat), (3, s.rx.bitCnt.toNat),
   (4, s.rx.acc.toNat), (5, s.rx.par.toNat), (6, s.rx.len.toNat),
   (7, s.rx.zv.toNat + 2 * s.rx.ov.toNat + 4 * s.rx.markSeen.toNat),
   (8, s.diag.errCnt.toNat), (9, s.diag.lastErr.code),
   (10, s.tx.state.code), (11, s.tx.byteIdx.toNat), (12, s.tx.bitIdx.toNat), (13, s.tx.par.toNat),
   (14, s.tx.len.toNat), (15, s.sa.valid.toNat + 2 * s.sa.level.bit.toNat), (16, s.sa.run.toNat)]

/-- The state of spec/10_state.md R52: every element at its reset value, the memories unspecified
(nothing written in them). -/
abbrev IsResetState (t : State) : Prop :=
  t.en = false ∧ (∀ i : Fin 19, t.cfg[i] = 0) ∧ t.rx = rxCleared ∧ t.diag = ⟨0, .noError⟩
    ∧ t.tx = txCleared ∧ t.sa = saCleared ∧ t.frameBuf = [] ∧ t.txBuf = []

/-! ### The bits and pairs of a send (spec/43_transmit.md R169 to R172) -/

/-- The `i`-th bit on the air of the byte `v` (43_transmit.md R170). -/
abbrev airBit (pf : Profile) (v : Byte) (i : Nat) : Bool :=
  if pf[15] = 1 then v.getLsbD (pf[13].toNat - 1 - i) else v.getLsbD i

/-- The data bits of a byte in order of emission. -/
def dataBits (pf : Profile) (v : Byte) : List Bool := (List.range pf[13].toNat).map (airBit pf v)

/-- The level a sample byte shows: its bit 7 (42_sample_adapter.md R151). -/
abbrev shownLevel (smp : Byte) : Level := if smp.getLsbD 7 then .mark else .space

/-- The XOR of some bits. -/
def xorAll (bs : List Bool) : Bool := bs.foldl (· ^^ ·) false

/-- The check bit for the XOR `p` of the data bits (43_transmit.md R171). -/
abbrev airCheck (mode : Duration) (p : Bool) : Bool :=
  if mode = 1 then !p else if mode = 2 then p else decide (mode = 3)

/-- The bits of one byte: data bits, then the check bit if there is one. -/
def byteBits (pf : Profile) (v : Byte) : List Bool :=
  dataBits pf v ++ (if pf[14] = 0 then [] else [airCheck pf[14] (xorAll (dataBits pf v))])

/-- All bits of a send: preamble, one, bytes, end marker (43_transmit.md R172). -/
def sendBits (pf : Profile) (payload : List Byte) : List Bool :=
  List.replicate pf[16].toNat false ++ [true] ++ payload.flatMap (byteBits pf) ++ [false]

/-- The pair of a bit (43_transmit.md R169). -/
abbrev airPair (pf : Profile) (b : Bool) : Pair := if b then ⟨pf[10], pf[11]⟩ else ⟨pf[8], pf[9]⟩

/-- A pair as `TXSTEP` answers it, mark in bits 31:16 (30_encoding.md R93). -/
abbrev pairWord (p : Pair) : Word := p.mark ++ p.space

/-- The pairs of a send, the idle marker last (43_transmit.md R172). -/
def sendPairs (pf : Profile) (payload : List Byte) : List Pair :=
  (sendBits pf payload).map (airPair pf) ++ [⟨0, pf[12]⟩]

/-- Pair feeding (41_receive.md R141): a pair as a mark event and a space event, the idle marker as a
space event alone. -/
def feedPairs (ps : List Pair) : List Instr :=
  ps.flatMap fun p =>
    if p.mark = 0 then [.feed .space p.space] else [.feed .mark p.mark, .feed .space p.space]

/-- Each read window contains the write duration of its value and level and not the other write
duration of that level (41_receive.md R141). -/
abbrev WindowsSeparate (pf : Profile) : Prop :=
  (inwin pf[8] pf[0] pf[4] ∧ inwin pf[9] pf[1] pf[5] ∧ inwin pf[10] pf[2] pf[6] ∧ inwin pf[11] pf[3] pf[7])
    ∧ ¬ inwin pf[8] pf[2] pf[6] ∧ ¬ inwin pf[9] pf[3] pf[7] ∧ ¬ inwin pf[10] pf[0] pf[4]
    ∧ ¬ inwin pf[11] pf[1] pf[5]

/-! ### The invariant -/

/-- The clauses (b) to (j) of spec/41_receive.md R138, and what R61 and R64 of spec/20_memory.md say of
the bytes already received: each is written and fits `BITS` bits. -/
abbrev RxInv (pf : Profile) (r : RxSession) (fb : Memory) : Prop :=
  (r.state = .unsynced → r.syncCnt = 0)
    ∧ (r.state ≠ .synced → r.bitCnt = 0 ∧ r.acc = 0 ∧ r.par = false ∧ r.len = 0)
    ∧ (r.state = .synced → r.syncCnt = 0)
    ∧ r.syncCnt.toNat ≤ pf[16].toNat
    ∧ r.bitCnt.toNat ≤ pf[13].toNat
    ∧ (r.bitCnt.toNat = pf[13].toNat → pf[14] ≠ 0)
    ∧ r.len.toNat < pf[17].toNat
    ∧ (r.markSeen = false → r.zv = false ∧ r.ov = false)
    ∧ r.acc.toNat < 2 ^ r.bitCnt.toNat
    ∧ r.par = xorAll ((List.range 8).map r.acc.getLsbD)
    ∧ (∀ a, a < r.len.toNat → (memGet a fb).any (fun v => decide (v.toNat < 2 ^ pf[13].toNat)))

/-- What the transmit session satisfies in each state (10_state.md R40 to R44, 43_transmit.md R163 to
R168). -/
abbrev TxInv (pf : Profile) (t : TxSession) : Prop :=
  (t.state = .idle → t = txCleared)
    ∧ (t.state = .sync → t.bitIdx.toNat ≤ pf[16].toNat ∧ t.byteIdx = 0 ∧ t.par = false)
    ∧ (t.state = .data → t.bitIdx.toNat ≤ pf[13].toNat
        ∧ (t.bitIdx.toNat = pf[13].toNat → pf[14] ≠ 0)
        ∧ (t.byteIdx = t.len → t.bitIdx = 0) ∧ (t.bitIdx = 0 → t.par = false))
    ∧ (t.state = .done → t.byteIdx = t.len ∧ t.bitIdx = 0 ∧ t.par = false)
    ∧ t.byteIdx.toNat ≤ t.len.toNat ∧ t.len.toNat ≤ 32

/-- What the adapter satisfies (10_state.md R46, 42_sample_adapter.md R152). -/
abbrev SaInv (a : Adapter) : Prop :=
  (a.valid = false → a = saCleared) ∧ (a.valid = true → 1 ≤ a.run.toNat)

/-- A frame event is not empty, not longer than `FRAMEBUF`, and carries as many bytes as it says
(20_memory.md R66). -/
def PortEvent.sound : PortEvent → Bool
  | .frame _ n bytes => decide (1 ≤ n) && decide (n ≤ 32) && decide (bytes.length = n)
  | .response _ _ => true

/-- The invariant of every reachable state: both memories in canonical form; an error recorded exactly
if one was counted; every event shown sound; while enabled a legal profile and the three sessions'
invariants, while disabled every session at its initial values (40_control.md R104, R105). -/
abbrev Inv (s : State) : Prop :=
  Memory.wf .frameBuf s.frameBuf = true ∧ Memory.wf .txBuf s.txBuf = true
    ∧ (s.diag.lastErr = .noError ↔ s.diag.errCnt = 0)
    ∧ s.outputs.all PortEvent.sound = true
    ∧ (s.en = true →
        LegalProfile s.cfg ∧ RxInv s.cfg s.rx s.frameBuf ∧ TxInv s.cfg s.tx ∧ SaInv s.sa)
    ∧ (s.en = false → s.rx = rxCleared ∧ s.tx = txCleared ∧ s.sa = saCleared)

end Sys2Proof.Machine
end

