-- ==== Sys2Proof/WellFormed.lean ====
section
/-! DEFINITION. Which commands carry operands in range (spec/30_encoding.md R92, spec/20_memory.md
R63). Every term of `Instr` has an encoding, since each operand has exactly the width of its field;
an out-of-range operand is "a legal encoding of an impossible request", which the machine answers
`BAD_RANGE`. -/

namespace Sys2Proof

/-- What is out of range in a command, with the offending operand. -/
inductive IllFormed where
  /-- `CFGW` or `CFGR` with `idx >= 19`. -/
  | cfgIndex (idx : BitVec 5)
  /-- `STRD` with `idx >= 17`. -/
  | statIndex (idx : BitVec 5)
  /-- `TXLOAD` with `addr >= 32`. -/
  | txAddress (addr : BitVec 8)
  /-- `TXSTART` with `len >= 33`. -/
  | txLength (len : BitVec 8)
deriving DecidableEq, Repr

/-- The range check of 30_encoding.md R92 and 60_exceptions.md R181: what is out of range, if
anything. -/
def Instr.check : Instr → Option IllFormed
  | .nop => none
  | .reset => none
  | .cfgw idx _ => if idx.toNat < Config.cfgCount then none else some (.cfgIndex idx)
  | .cfgr idx => if idx.toNat < Config.cfgCount then none else some (.cfgIndex idx)
  | .enable => none
  | .disable => none
  | .feed _ _ => none
  | .sample _ => none
  | .txload addr _ =>
    if addr.toNat < Config.bufBytes .txBuf then none else some (.txAddress addr)
  | .txstart len => if len.toNat ≤ Config.bufBytes .txBuf then none else some (.txLength len)
  | .txstep => none
  | .strd idx => if idx.toNat < Config.statCount then none else some (.statIndex idx)

/-- Every operand is in range. -/
abbrev Instr.WellFormed (i : Instr) : Prop := i.check = none

end Sys2Proof
end

