-- ==== Sys2Proof/Certificates/Slice0/Obligations.lean ====
section
/-! DEFINITION. The statements about `OOKFC`. Each says in its docstring which rule of spec/ it formalises.
A post-state is written out as a whole, so that each such equation is result, frame and completion at
once; a memory that is stored to is described through `memGet`, the read of one byte. -/

open Sys2Proof Sys2Proof.Machine

/-! ### Encoding -/

/-- 30_encoding.md R81, R83: every command, with every value of every operand, decodes from its own
encoding. -/
def Obligations.DecodeOfEncodeIsTheCommand : Prop :=
  ∀ i : Instr, decode (encode i) = .ok i

/-- 30_encoding.md R84: a word that decodes to a command is that command's encoding, so no bit of a word
is dropped and no two words spell one command. -/
def Obligations.EncodeOfDecodedIsTheWord : Prop :=
  ∀ (w : Word) (i : Instr), decode w = .ok i → encode i = w

/-- 30_encoding.md R83: a word spells a command exactly when its masked bits match that command's row. -/
def Obligations.DecodeAgreesWithMatchAndMask : Prop :=
  ∀ w : Word,
    (decode w = .ok .nop ↔ w &&& 0xFFFFFFFF#32 = 0x00000000#32)
    ∧ (decode w = .ok .reset ↔ w &&& 0xFFFFFFFF#32 = 0x10000000#32)
    ∧ ((∃ idx val, decode w = .ok (.cfgw idx val)) ↔ w &&& 0xFFE00000#32 = 0x20000000#32)
    ∧ ((∃ idx, decode w = .ok (.cfgr idx)) ↔ w &&& 0xFFE0FFFF#32 = 0x30000000#32)
    ∧ (decode w = .ok .enable ↔ w &&& 0xFFFFFFFF#32 = 0x40000000#32)
    ∧ (decode w = .ok .disable ↔ w &&& 0xFFFFFFFF#32 = 0x50000000#32)
    ∧ ((∃ lvl dur, decode w = .ok (.feed lvl dur)) ↔ w &&& 0xFFFE0000#32 = 0x60000000#32)
    ∧ ((∃ smp, decode w = .ok (.sample smp)) ↔ w &&& 0xFFFFFF00#32 = 0x70000000#32)
    ∧ ((∃ addr data, decode w = .ok (.txload addr data)) ↔ w &&& 0xFF00FF00#32 = 0x80000000#32)
    ∧ ((∃ len, decode w = .ok (.txstart len)) ↔ w &&& 0xFFFFFF00#32 = 0x90000000#32)
    ∧ (decode w = .ok .txstep ↔ w &&& 0xFFFFFFFF#32 = 0xA0000000#32)
    ∧ ((∃ idx, decode w = .ok (.strd idx)) ↔ w &&& 0xFFE0FFFF#32 = 0xB0000000#32)

/-- 30_encoding.md section 7: its example words decode to the commands they stand for. -/
def Obligations.ExampleWordsDecode : Prop :=
  decode 0x200C0384#32 = .ok (.cfgw 12 900) ∧ decode 0x60010190#32 = .ok (.feed .mark 400)
    ∧ decode 0x60000514#32 = .ok (.feed .space 1300) ∧ decode 0x70000080#32 = .ok (.sample 0x80)
    ∧ decode 0x80030012#32 = .ok (.txload 3 0x12) ∧ decode 0x90000005#32 = .ok (.txstart 5)
    ∧ decode 0xA0000000#32 = .ok .txstep ∧ decode 0xB0060000#32 = .ok (.strd 6)
    ∧ decode 0xC0000000#32 = .error .reservedOpcode ∧ decode 0x60020000#32 = .error .reservedBit
    ∧ decode 0x20130000#32 = .ok (.cfgw 19 0)

/-! ### The step

The queue `inputs` that these statements take a word or a hardware reset from is the model's own (log 1). -/

/-- 20_memory.md R70: when the host presents a word that decodes to a command, the step is that command's
meaning on the state without that word. The queue of inputs is the model's own (log 1). -/
def Obligations.StepRunsTheDecodedCommand : Prop :=
  ∀ (s : State) (w : Word) (rest : List PortInput) (i : Instr),
    s.inputs = .command w :: rest → decode w = .ok i →
      step s = exec i { s with inputs := rest }

/-- 20_memory.md R69, 60_exceptions.md R196: while the host presents nothing, nothing happens. That the step
then answers the same state is the model's choice (log 1). -/
def Obligations.NothingHappensBetweenCommands : Prop :=
  ∀ s : State, s.inputs = [] → step s = .next s

/-- 30_encoding.md R90: a reserved opcode answers `ILLEGAL` and changes no state. -/
def Obligations.ReservedOpcodeAnswersIllegal : Prop :=
  ∀ (s : State) (w : Word) (rest : List PortInput),
    s.inputs = .command w :: rest → 0xC ≤ w.toNat / 2 ^ 28 →
      step s = .next (answered .illegal 0 { s with inputs := rest })

/-- 30_encoding.md R91: a reserved bit set under an opcode 0x0 to 0xB answers `ILLEGAL` and changes no
state. -/
def Obligations.ReservedBitAnswersIllegal : Prop :=
  ∀ (s : State) (w : Word) (rest : List PortInput),
    s.inputs = .command w :: rest → w.toNat / 2 ^ 28 ≤ 0xB →
      w &&& reservedBits (w.toNat / 2 ^ 28) ≠ 0 →
        step s = .next (answered .illegal 0 { s with inputs := rest })

/-- 70_reset_and_hazards.md R200, R201: hardware reset puts every element at its reset value and emits
neither a frame event nor a response; `RESET` leaves exactly the same state and differs only in answering
`OK 0`. -/
def Obligations.HardwareResetClearsEverything : Prop :=
  ∀ (s : State) (rest : List PortInput),
    ∃ t, step { s with inputs := .hardReset :: rest } = .next t
      ∧ IsResetState t ∧ t.outputs = s.outputs ∧ t.inputs = rest
      ∧ exec .reset { s with inputs := rest } = .next (answered .ok 0 t)

/-! ### Reset and the control commands -/

/-- 10_state.md R52, 40_control.md R107: the state after hardware reset and after the `RESET` command, which
is accepted in every state and emits no frame event. -/
def Obligations.ResetValues : Prop :=
  encode .reset = 0x10000000#32 ∧ IsResetState State.reset
    ∧ ∀ s : State, ∃ t, exec .reset s = .next t ∧ IsResetState t ∧ t.inputs = s.inputs
        ∧ t.outputs = s.outputs ++ [.response .ok 0]

/-- 70_reset_and_hazards.md R202: what each command answers right after reset. -/
def Obligations.AfterResetInert : Prop :=
  (∀ l d, exec (.feed l d) State.reset = .next (answered .notEnabled 0 State.reset))
    ∧ (∀ smp, exec (.sample smp) State.reset = .next (answered .notEnabled 0 State.reset))
    ∧ (∀ len : BitVec 8, len.toNat ≤ 32 →
        exec (.txstart len) State.reset = .next (answered .notEnabled 0 State.reset))
    ∧ exec .disable State.reset = .next (answered .notEnabled 0 State.reset)
    ∧ exec .enable State.reset = .next (answered .badProfile 0 State.reset)
    ∧ exec .txstep State.reset = .next (answered .ok 0 State.reset)
    ∧ (∀ i : Instr, i.WellFormed →
        (i = .nop ∨ i = .reset ∨ (∃ idx val, i = .cfgw idx val) ∨ (∃ idx, i = .cfgr idx)
          ∨ (∃ idx, i = .strd idx) ∨ ∃ addr data, i = .txload addr data) →
        ∃ t, exec i State.reset = .next t ∧ t.outputs = [.response .ok 0])

/-- 40_control.md R101: `NOP`, the all-zero word, answers `OK 0` and writes no state. -/
def Obligations.NopOnlyAnswers : Prop :=
  encode .nop = 0x00000000#32 ∧ ∀ s : State, exec .nop s = .next (answered .ok 0 s)

/-- 40_control.md R102: `CFGW` writes the one register it names when disabled, is refused `LOCKED` when
enabled, and refuses an index out of range before that. -/
def Obligations.CfgwWritesOneRegister : Prop :=
  ∀ (s : State) (idx : BitVec 5) (val : Duration),
    encode (.cfgw idx val) = 0x2#32 <<< 28 ||| idx.setWidth 32 <<< 16 ||| val.setWidth 32
    ∧ (19 ≤ idx.toNat → exec (.cfgw idx val) s = .next (answered .badRange 0 s))
    ∧ (idx.toNat < 19 → s.en = true → exec (.cfgw idx val) s = .next (answered .locked 0 s))
    ∧ (idx.toNat < 19 → s.en = false →
        ∃ t, exec (.cfgw idx val) s = .next t
          ∧ (∀ j : Fin 19, t.cfg[j] = if j.val = idx.toNat then val else s.cfg[j])
          ∧ t = answered .ok 0 { s with cfg := t.cfg })

/-- 40_control.md R103: `CFGR` answers the register it names, zero-extended, enabled or not. -/
def Obligations.CfgrReadsOneRegister : Prop :=
  ∀ (s : State) (idx : BitVec 5),
    encode (.cfgr idx) = 0x3#32 <<< 28 ||| idx.setWidth 32 <<< 16
    ∧ (19 ≤ idx.toNat → exec (.cfgr idx) s = .next (answered .badRange 0 s))
    ∧ ∀ j : Fin 19, j.val = idx.toNat →
        exec (.cfgr idx) s = .next (answered .ok (BitVec.ofNat 32 s.cfg[j].toNat) s)

/-- 40_control.md R104: `ENABLE` is refused `LOCKED` if enabled, then `BAD_PROFILE` if a clause of
`profile_ok` fails; otherwise it sets `en` and initialises the three sessions. -/
def Obligations.EnableChecksTheProfile : Prop :=
  encode .enable = 0x40000000#32
  ∧ ∀ s : State,
    (s.en = true → exec .enable s = .next (answered .locked 0 s))
    ∧ (s.en = false → ¬ LegalProfile s.cfg → exec .enable s = .next (answered .badProfile 0 s))
    ∧ (s.en = false → LegalProfile s.cfg →
        exec .enable s = .next
          (answered .ok 0 { s with en := true, rx := rxCleared, tx := txCleared, sa := saCleared }))

/-- 40_control.md R105: `DISABLE` clears `en` and the three sessions without a frame event; the profile,
`TXBUF` and the diagnostics stay. Disabled, it is refused. -/
def Obligations.DisableTearsDown : Prop :=
  encode .disable = 0x50000000#32
  ∧ ∀ s : State,
    (s.en = false → exec .disable s = .next (answered .notEnabled 0 s))
    ∧ (s.en = true →
        exec .disable s = .next
          (answered .ok 0 { s with en := false, rx := rxCleared, tx := txCleared, sa := saCleared }))

/-- 10_state.md R48 with 40_control.md R106: `STRD` answers the value of the status map and writes
nothing; the indices 17 to 31 are refused; at reset every value of the map is 0. -/
def Obligations.StrdReadsTheStatusMap : Prop :=
  (∀ p ∈ statTable State.reset, p.2 = 0)
  ∧ ∀ (s : State) (idx : BitVec 5),
    encode (.strd idx) = 0xB#32 <<< 28 ||| idx.setWidth 32 <<< 16
    ∧ (17 ≤ idx.toNat → exec (.strd idx) s = .next (answered .badRange 0 s))
    ∧ ∀ v : Nat, (idx.toNat, v) ∈ statTable s →
        exec (.strd idx) s = .next (answered .ok (BitVec.ofNat 32 v) s)

/-! ### Refusals and answers in general -/

/-- 60_exceptions.md R181, its `NOT_ENABLED` and `TX_BUSY` rows: the refused command changes nothing. -/
def Obligations.SessionCommandsRefusedByState : Prop :=
  ∀ s : State,
    (s.en = false →
      (∀ l d, exec (.feed l d) s = .next (answered .notEnabled 0 s))
      ∧ (∀ smp, exec (.sample smp) s = .next (answered .notEnabled 0 s))
      ∧ (∀ len : BitVec 8, len.toNat ≤ 32 →
          exec (.txstart len) s = .next (answered .notEnabled 0 s))
      ∧ exec .disable s = .next (answered .notEnabled 0 s))
    ∧ (s.tx.state ≠ .idle →
      (∀ (addr : BitVec 8) data, addr.toNat ≤ 31 →
          exec (.txload addr data) s = .next (answered .txBusy 0 s))
      ∧ (∀ len : BitVec 8, len.toNat ≤ 32 → s.en = true →
          exec (.txstart len) s = .next (answered .txBusy 0 s)))

/-- 30_encoding.md R93: a response whose status is not `OK` has `rdata` 0, and its command has changed
nothing. -/
def Obligations.RefusedCommandChangesNothing : Prop :=
  ∀ (i : Instr) (s t : State) (st : Status) (rdata : Word),
    exec i s = .next t → t.outputs.getLast? = some (.response st rdata) → st ≠ .ok →
      rdata = 0 ∧ t = answered st 0 s

/-- 60_exceptions.md R180, 20_memory.md R66: a command that ends gives exactly one response, after at most
one frame event, and only an enabled `FEED` or `SAMPLE` gives a frame event. -/
def Obligations.OneResponseAtMostOneFrame : Prop :=
  ∀ (i : Instr) (s t : State), exec i s = .next t →
    ∃ (frames : List PortEvent) (st : Status) (rdata : Word),
      t.outputs = s.outputs ++ frames ++ [.response st rdata]
      ∧ frames.length ≤ 1 ∧ (∀ e ∈ frames, e.isFrame = true)
      ∧ (frames ≠ [] → feedsRx i = true ∧ s.en = true)

/-- 10_state.md R49: what a command does and answers does not depend on what the ports have shown nor on
what the host is still to present: there is no hidden state there. -/
def Obligations.OutputsAndInputsDoNotMatter : Prop :=
  ∀ (i : Instr) (s t : State) (o : List PortEvent) (q : List PortInput), exec i s = .next t →
    ∃ new, t.outputs = s.outputs ++ new
      ∧ exec i { s with outputs := o, inputs := q } =
          .next { t with outputs := o ++ new, inputs := q }

/-- 20_memory.md R73: the profile is stable while enabled, and the payload while a send is in progress,
under every command but `RESET`. -/
def Obligations.ProfileAndPayloadAreStableInUse : Prop :=
  ∀ (i : Instr) (s t : State), exec i s = .next t → i ≠ .reset →
    (s.en = true → t.cfg = s.cfg) ∧ (s.tx.state ≠ .idle → t.txBuf = s.txBuf)

/-- 40_control.md R109: the two state registers move only as its table says. -/
def Obligations.StateRegistersMoveOnlyByTheTable : Prop :=
  ∀ (i : Instr) (s t : State), exec i s = .next t →
    (t.rx.state ≠ s.rx.state →
      (feedsRx i = true ∧ (s.rx.state = .synced → t.rx.state = .unsynced))
      ∨ ((i = .reset ∨ i = .enable ∨ i = .disable) ∧ t.rx.state = .unsynced))
    ∧ (t.tx.state ≠ s.tx.state →
      (i = .txstep ∧ ((s.tx.state = .sync ∧ t.tx.state = .data)
          ∨ (s.tx.state = .data ∧ t.tx.state = .done) ∨ (s.tx.state = .done ∧ t.tx.state = .idle)))
      ∨ ((∃ len, i = .txstart len) ∧ s.tx.state = .idle ∧ t.tx.state = .sync)
      ∨ ((i = .reset ∨ i = .enable ∨ i = .disable) ∧ t.tx.state = .idle))

/-- 60_exceptions.md R182, R189 and 10_state.md R38: any command but `RESET` either leaves the diagnostics
alone, or is a `FEED` or `SAMPLE` that met one framing error: one saturating count, its code, and a cleared
receive session. -/
def Obligations.OneFramingErrorPerCommand : Prop :=
  ∀ (i : Instr) (s t : State), exec i s = .next t → i ≠ .reset →
    t.diag = s.diag
    ∨ (feedsRx i = true ∧ t.rx = rxCleared
        ∧ ∃ e, e ≠ ErrCode.noError ∧ t.diag = ⟨plusOneSat s.diag.errCnt, e⟩)

/-! ### Receive -/

/-- 41_receive.md R123: window membership is unsigned and inclusive at both ends, and an empty window
contains nothing. -/
def Obligations.WindowsAreClosedIntervals : Prop :=
  ∀ d lo hi : Duration,
    (inwin d lo hi = true ↔ lo.toNat ≤ d.toNat ∧ d.toNat ≤ hi.toNat)
    ∧ (hi.toNat < lo.toNat → inwin d lo hi = false)

/-- 41_receive.md R125: a mark event of any duration stores its two votes and sets `mark_seen`, and does
nothing else. -/
def Obligations.MarkEventStoresItsVotes : Prop :=
  ∀ (s : State) (d : Duration), s.en = true →
    exec (.feed .mark d) s = .next (answered .ok 0 { s with rx := { s.rx with
      zv := decide (s.cfg[0] ≤ d ∧ d ≤ s.cfg[4])
      ov := decide (s.cfg[2] ≤ d ∧ d ≤ s.cfg[6])
      markSeen := true } })

/-- 41_receive.md R135: `rx_reset` flushes if a complete byte is held, records the cause unless it is end of
frame, and initialises the receive session; it touches nothing else. -/
def Obligations.RxResetFlushesRecordsClears : Prop :=
  ∀ s : State, s.rx.len.toNat ≤ 32 →
    rxReset .eof s = .ok (afterRxReset none s)
    ∧ rxReset .tie s = .ok (afterRxReset (some .tie) s)
    ∧ rxReset .syncFail s = .ok (afterRxReset (some .syncFail) s)
    ∧ rxReset .parityErr s = .ok (afterRxReset (some .parityErr) s)
    ∧ rxReset .overflow s = .ok (afterRxReset (some .overflow) s)

/-- 41_receive.md R122: a space of at least `IDLE` ends the frame: it flushes if and only if a complete byte
is held, resets in every case, and is no error. -/
def Obligations.IdleSpaceEndsTheFrame : Prop :=
  ∀ (s : State) (d : Duration), s.en = true → s.cfg[12] ≤ d → s.rx.len.toNat ≤ 32 →
    exec (.feed .space d) s = .next (answered .ok 0 (afterRxReset none s))

/-- 41_receive.md R126: a space shorter than `IDLE` with no mark pending is ignored. -/
def Obligations.LoneSpaceIsIgnored : Prop :=
  ∀ (s : State) (d : Duration), s.en = true → d < s.cfg[12] → s.rx.markSeen = false →
    exec (.feed .space d) s = .next (answered .ok 0 s)

/-- 41_receive.md R127, its ties: equal votes reset the receive session with cause `TIE`. -/
def Obligations.TiedVotesReset : Prop :=
  ∀ (s : State) (d : Duration), EndsPeriod s d → zVotes s d = oVotes s d → s.rx.len.toNat ≤ 32 →
    exec (.feed .space d) s = .next (answered .ok 0 (afterRxReset (some .tie) s))

/-- 41_receive.md R129: a zero bit outside `Synced` goes to `Syncing` and counts, saturating at `SYNC`. -/
def Obligations.SyncZeroBitCounts : Prop :=
  ∀ (s : State) (d : Duration), Decodes s d false → s.rx.state ≠ .synced →
    exec (.feed .space d) s = .next (answered .ok 0 { s with rx := { votesUsed s.rx with
      state := .syncing
      syncCnt := if s.rx.syncCnt.toNat < s.cfg[16].toNat then s.rx.syncCnt + 1 else s.rx.syncCnt } })

/-- 41_receive.md R130: a one bit outside `Synced` synchronises after at least `SYNC` zero bits, and
otherwise resets with cause `SYNC_FAIL`. -/
def Obligations.SyncOneBitSynchronisesOrFails : Prop :=
  ∀ (s : State) (d : Duration), Decodes s d true → s.rx.state ≠ .synced →
    (s.cfg[16].toNat ≤ s.rx.syncCnt.toNat →
      exec (.feed .space d) s = .next (answered .ok 0 { s with rx := { votesUsed s.rx with
        state := .synced, syncCnt := 0, bitCnt := 0, acc := 0, par := false } }))
    ∧ (s.rx.syncCnt.toNat < s.cfg[16].toNat → s.rx.len.toNat ≤ 32 →
      exec (.feed .space d) s = .next (answered .ok 0 (afterRxReset (some .syncFail) s)))

/-- 41_receive.md R131, a data bit that does not complete its byte: it is shifted in by the bit order, joins
the parity, and is counted. -/
def Obligations.DataBitIsShiftedIn : Prop :=
  ∀ (s : State) (d : Duration) (b : Bool), Decodes s d b → s.rx.state = .synced →
    s.rx.bitCnt.toNat < s.cfg[13].toNat →
    ¬ (s.rx.bitCnt.toNat + 1 = s.cfg[13].toNat ∧ s.cfg[14] = 0) →
    exec (.feed .space d) s = .next (answered .ok 0 { s with rx := { votesUsed s.rx with
      acc := accWith s b, par := s.rx.par ^^ b, bitCnt := s.rx.bitCnt + 1 } })

/-- 41_receive.md R133: a completed byte is stored at `rx_len` and nowhere else in `FRAMEBUF`; the byte that
makes the length `MAXFRAME` flushes the whole frame at once with cause `OVERFLOW`. -/
def Obligations.CompletedByteIsAppended : Prop :=
  ∀ (s : State) (d : Duration) (b : Bool) (v : Byte),
    CompletesByte s d b v → s.rx.len.toNat < 32 →
    ∃ t, exec (.feed .space d) s = .next t
      ∧ memGet s.rx.len.toNat t.frameBuf = some v
      ∧ (∀ a, a ≠ s.rx.len.toNat → memGet a t.frameBuf = memGet a s.frameBuf)
      ∧ (s.rx.len.toNat + 1 ≠ s.cfg[17].toNat →
          t = answered .ok 0 { s with
            frameBuf := t.frameBuf
            rx := { votesUsed s.rx with
              len := s.rx.len + 1, acc := 0, bitCnt := 0, par := false } })
      ∧ (s.rx.len.toNat + 1 = s.cfg[17].toNat →
          t = answered .ok 0 { s with
            frameBuf := t.frameBuf
            rx := rxCleared
            diag := ⟨plusOneSat s.diag.errCnt, .overflow⟩
            outputs := s.outputs ++ [.frame (s.cfg[18].setWidth 8) (s.rx.len.toNat + 1)
              (frameBytes s s.rx.len.toNat ++ [v])] })

/-- 41_receive.md R132, its mismatches: a check bit that does not satisfy the parity mode drops the byte,
flushes the bytes before it and resets with cause `PARITY_ERR`. -/
def Obligations.FailedCheckBitResets : Prop :=
  ∀ (s : State) (d : Duration) (b : Bool), Decodes s d b → s.rx.state = .synced →
    s.rx.bitCnt.toNat = s.cfg[13].toNat → 1 ≤ s.cfg[14].toNat → s.cfg[14].toNat ≤ 4 →
    ¬ Passes s.cfg[14] s.rx.par b → s.rx.len.toNat ≤ 32 →
    exec (.feed .space d) s = .next (answered .ok 0 (afterRxReset (some .parityErr) s))

/-- 41_receive.md R120 and 42_sample_adapter.md R156: `FEED` writes only the receive session and the
diagnostics, `SAMPLE` besides those only the adapter, and neither writes `FRAMEBUF` but at `rx_len`. -/
def Obligations.ReceiveCommandsTouchOnlyReceive : Prop :=
  ∀ s t : State,
    (∀ l d, exec (.feed l d) s = .next t →
      t = { s with rx := t.rx, frameBuf := t.frameBuf, diag := t.diag, outputs := t.outputs }
      ∧ ∀ a, a ≠ s.rx.len.toNat → memGet a t.frameBuf = memGet a s.frameBuf)
    ∧ (∀ smp, exec (.sample smp) s = .next t →
      t = { s with
        rx := t.rx, frameBuf := t.frameBuf, diag := t.diag, sa := t.sa, outputs := t.outputs }
      ∧ ∀ a, a ≠ s.rx.len.toNat → memGet a t.frameBuf = memGet a s.frameBuf)

/-- 20_memory.md R66, R64 and 41_receive.md R136: from a state of the invariant, a frame event carries the
channel of the profile, 1 to `MAXFRAME` bytes, as many as it says, each below 2^`BITS`. -/
def Obligations.FrameEventsAreSound : Prop :=
  ∀ (i : Instr) (s t : State), Inv s → exec i s = .next t →
    ∀ (ch : Byte) (n : Nat) (bytes : List Byte),
      PortEvent.frame ch n bytes ∈ t.outputs.drop s.outputs.length →
        ch = s.cfg[18].setWidth 8 ∧ 1 ≤ n ∧ n ≤ s.cfg[17].toNat ∧ bytes.length = n
        ∧ ∀ v ∈ bytes, v.toNat < 2 ^ s.cfg[13].toNat

/-! ### Sample adapter -/

/-- 42_sample_adapter.md R152: the first sample starts the first run and produces no event. -/
def Obligations.FirstSampleStartsARun : Prop :=
  ∀ (s : State) (smp : Byte), s.en = true → s.sa.valid = false →
    exec (.sample smp) s = .next (answered .ok 0 { s with sa := ⟨true, shownLevel smp, 1⟩ })

/-- 42_sample_adapter.md R151: the level of a sample is its bit 7, 1 mark and 0 space; bits 6:0 are
ignored. -/
def Obligations.SampleLevelIsTheHighBit : Prop :=
  (∀ x : Byte, sampleLevel x = if x.getLsbD 7 then .mark else .space)
  ∧ ∀ (s : State) (x y : Byte), x.getLsbD 7 = y.getLsbD 7 →
    exec (.sample x) s = exec (.sample y) s

/-- 42_sample_adapter.md R153, less the timeout: a sample at the level of the run makes the run one longer,
saturating, and gives `RX` no event, unless it is a space run that reaches `IDLE`. -/
def Obligations.SameLevelSampleGrowsTheRun : Prop :=
  ∀ (s : State) (smp : Byte), s.en = true → s.sa.valid = true → s.sa.level = shownLevel smp →
    ¬ (s.sa.level = .space ∧ s.sa.run < s.cfg[12] ∧ s.cfg[12] ≤ plusOneSat s.sa.run) →
    exec (.sample smp) s =
      .next (answered .ok 0 { s with sa := { s.sa with run := plusOneSat s.sa.run } })

/-- 42_sample_adapter.md R154: a space run that reaches `IDLE` is reported at once as end of frame and goes
on; with `SA_IDLE_TIMEOUT` false it only grows. That the instance has the parameter true is the value the
spec takes (log 5). -/
def Obligations.SpaceRunTimesOutAtIdle : Prop :=
  ∀ (s : State) (smp : Byte), s.en = true → s.sa.valid = true → s.sa.level = .space →
    shownLevel smp = .space → s.sa.run < s.cfg[12] → s.cfg[12] ≤ plusOneSat s.sa.run →
    (s.rx.len.toNat ≤ 32 →
      exec (.sample smp) s = .next (answered .ok 0
        (afterRxReset none { s with sa := { s.sa with run := plusOneSat s.sa.run } })))
    ∧ sampleWith false smp s =
      .next (answered .ok 0 { s with sa := { s.sa with run := plusOneSat s.sa.run } })

/-- 42_sample_adapter.md R155: a sample at the other level is the event of the finished run given to `RX`,
and then starts a new run of length 1. -/
def Obligations.TransitionReportsTheRun : Prop :=
  ∀ (s t : State) (smp : Byte), s.en = true → s.sa.valid = true → s.sa.level ≠ shownLevel smp →
    exec (.feed s.sa.level s.sa.run) s = .next t →
    exec (.sample smp) s = .next { t with sa := ⟨true, shownLevel smp, 1⟩ }

/-! ### Transmit -/

/-- 43_transmit.md R160: `TXLOAD` writes the one byte it names while no send is in progress, and is refused
`TX_BUSY` otherwise. -/
def Obligations.TxloadWritesOneByte : Prop :=
  ∀ (s : State) (addr : BitVec 8) (data : Byte),
    encode (.txload addr data) = 0x8#32 <<< 28 ||| addr.setWidth 32 <<< 16 ||| data.setWidth 32
    ∧ (32 ≤ addr.toNat → exec (.txload addr data) s = .next (answered .badRange 0 s))
    ∧ (addr.toNat < 32 → s.tx.state ≠ .idle →
        exec (.txload addr data) s = .next (answered .txBusy 0 s))
    ∧ (addr.toNat < 32 → s.tx.state = .idle →
        ∃ t, exec (.txload addr data) s = .next t
          ∧ memGet addr.toNat t.txBuf = some data
          ∧ (∀ a, a ≠ addr.toNat → memGet a t.txBuf = memGet a s.txBuf)
          ∧ t = answered .ok 0 { s with txBuf := t.txBuf })

/-- 43_transmit.md R161: `TXSTART` starts a send, or is refused, in this order, `BAD_RANGE`, `NOT_ENABLED`,
`TX_BUSY`. -/
def Obligations.TxstartStartsASend : Prop :=
  ∀ (s : State) (len : BitVec 8),
    encode (.txstart len) = 0x9#32 <<< 28 ||| len.setWidth 32
    ∧ (33 ≤ len.toNat → exec (.txstart len) s = .next (answered .badRange 0 s))
    ∧ (len.toNat ≤ 32 → s.en = false → exec (.txstart len) s = .next (answered .notEnabled 0 s))
    ∧ (len.toNat ≤ 32 → s.en = true → s.tx.state ≠ .idle →
        exec (.txstart len) s = .next (answered .txBusy 0 s))
    ∧ (len.toNat ≤ 32 → s.en = true → s.tx.state = .idle →
        exec (.txstart len) s =
          .next (answered .ok 0 { s with tx := ⟨.sync, 0, 0, false, BitVec.ofNat 6 len.toNat⟩ }))

/-- 43_transmit.md R163: in `Idle` a step answers the idle marker and changes no state, enabled or not. -/
def Obligations.TxstepInIdle : Prop :=
  ∀ s : State, s.tx.state = .idle →
    exec .txstep s = .next (answered .ok (pairWord ⟨0, s.cfg[12]⟩) s)

/-- 43_transmit.md R164: in `Sync` a step answers a zero pair until `SYNC` are out, then the one pair and
`Data` is entered. -/
def Obligations.TxstepInSync : Prop :=
  ∀ s : State, s.tx.state = .sync →
    (s.tx.bitIdx.toNat < s.cfg[16].toNat →
      exec .txstep s = .next (answered .ok (pairWord (airPair s.cfg false))
        { s with tx := { s.tx with bitIdx := s.tx.bitIdx + 1 } }))
    ∧ (s.cfg[16].toNat ≤ s.tx.bitIdx.toNat →
      exec .txstep s = .next (answered .ok (pairWord (airPair s.cfg true))
        { s with tx := { s.tx with state := .data, byteIdx := 0, bitIdx := 0, par := false } }))

/-- 43_transmit.md R165: in `Data` with all bytes sent a step answers the end marker and enters `Done`. -/
def Obligations.TxstepEndMarker : Prop :=
  ∀ s : State, s.tx.state = .data → s.tx.byteIdx = s.tx.len →
    exec .txstep s = .next (answered .ok (pairWord (airPair s.cfg false))
      { s with tx := { s.tx with state := .done } })

/-- 43_transmit.md R166: in `Data` a step answers the pair of the next data bit, joins it to the parity,
counts it, and with no parity moves on after the last. A byte nothing has written is a free value: the
statement holds whatever it is. -/
def Obligations.TxstepDataBit : Prop :=
  ∀ (s : State) (b : Bool), s.tx.state = .data → s.tx.byteIdx < s.tx.len → s.tx.byteIdx.toNat < 32 →
    s.cfg[13].toNat ≤ 8 → s.tx.bitIdx.toNat < s.cfg[13].toNat →
    b = airBit s.cfg (s.byteAt .txBuf s.tx.byteIdx.toNat) s.tx.bitIdx.toNat →
    exec .txstep s = .next (answered .ok (pairWord (airPair s.cfg b))
      { s with tx :=
        if s.tx.bitIdx.toNat + 1 = s.cfg[13].toNat ∧ s.cfg[14] = 0 then
          { s.tx with byteIdx := s.tx.byteIdx + 1, bitIdx := 0, par := false }
        else { s.tx with par := s.tx.par ^^ b, bitIdx := s.tx.bitIdx + 1 } })

/-- 43_transmit.md R167: in `Data` after the data bits a step answers the check bit's pair and moves on to
the next byte. -/
def Obligations.TxstepCheckBit : Prop :=
  ∀ s : State, s.tx.state = .data → s.tx.byteIdx < s.tx.len →
    s.tx.bitIdx.toNat = s.cfg[13].toNat → 1 ≤ s.cfg[14].toNat → s.cfg[14].toNat ≤ 4 →
    exec .txstep s = .next (answered .ok (pairWord (airPair s.cfg (airCheck s.cfg[14] s.tx.par)))
      { s with tx := { s.tx with byteIdx := s.tx.byteIdx + 1, bitIdx := 0, par := false } })

/-- 43_transmit.md R168: in `Done` a step answers the idle marker and returns to `Idle`. -/
def Obligations.TxstepInDone : Prop :=
  ∀ s : State, s.tx.state = .done →
    exec .txstep s = .next (answered .ok (pairWord ⟨0, s.cfg[12]⟩) { s with tx := txCleared })

/-- 43_transmit.md R169: enabled, a step answers a pair with mark 0 exactly when it answers the idle marker,
which is in `Idle` and in `Done`. -/
def Obligations.ZeroMarkIsTheIdleMarker : Prop :=
  ∀ s t : State, Inv s → s.en = true → exec .txstep s = .next t →
    ∃ rdata : Word, t.outputs = s.outputs ++ [.response .ok rdata]
      ∧ (rdata.extractLsb' 16 16 = 0 ↔ s.tx.state = .idle ∨ s.tx.state = .done)
      ∧ (s.tx.state = .idle ∨ s.tx.state = .done → rdata = pairWord ⟨0, s.cfg[12]⟩)

/-- 43_transmit.md R171: the check bit sent is the one of the table, and the only one the receiver
accepts. -/
def Obligations.CheckBitSentIsTheOneAccepted : Prop :=
  ∀ (mode : Duration) (p : Bool), 1 ≤ mode.toNat → mode.toNat ≤ 4 →
    checkBit mode p = some (airCheck mode p)
    ∧ checkOk mode p (airCheck mode p) = some true
    ∧ checkOk mode p (!airCheck mode p) = some false

/-- 43_transmit.md R170 with 41_receive.md R131: in either bit order, the data bits of a byte below
2^`BITS`, shifted in one after the other from 0, make that byte again. -/
def Obligations.BitOrderOfSendMirrorsReceive : Prop :=
  ∀ (pf : Profile) (v : Byte), 1 ≤ pf[13].toNat → pf[13].toNat ≤ 8 → v.toNat < 2 ^ pf[13].toNat →
    (List.range pf[13].toNat).foldl (fun acc k => shiftIn pf acc k (txBitOf pf v k)) 0 = v

/-- 70_reset_and_hazards.md R205: a `FEED` and a `TXSTEP` may come in either order: the states agree, and
only the order of what they put on the ports differs. -/
def Obligations.FeedAndTxstepCommute : Prop :=
  ∀ (s a b c e : State) (l : Level) (d : Duration),
    exec (.feed l d) s = .next a → exec .txstep a = .next b →
    exec .txstep s = .next c → exec (.feed l d) c = .next e →
    b = { e with outputs := b.outputs }
    ∧ ∃ x y, b.outputs = s.outputs ++ x ++ y ∧ e.outputs = s.outputs ++ y ++ x

/-! ### Headlines -/

/-- The invariant of Safety.lean holds at reset. -/
def Obligations.InvariantAtReset : Prop := Inv State.reset

/-- 41_receive.md R138 and 10_state.md R26, R35, R45: every step keeps the invariant, from every state that
meets it and whatever the host presents. -/
def Obligations.StepKeepsTheInvariant : Prop :=
  ∀ s t : State, Inv s → step s = .next t → Inv t

/-- 00_scope.md R12, 60_exceptions.md R180: from a state of the invariant no step stops: the machine takes
every input, legal or not. -/
def Obligations.NoStepStops : Prop :=
  ∀ s : State, Inv s → ∃ t, step s = .next t

/-- 43_transmit.md R172: an accepted `TXSTART` and as many `TXSTEP` as the send has pairs answer just those
pairs in order, the idle marker last, and leave everything as it was. -/
def Obligations.SendAnswersThePairSequence : Prop :=
  ∀ (s : State) (payload : List Byte) (len : BitVec 8),
    Inv s → s.en = true → s.tx.state = .idle →
    payload.length = len.toNat → len.toNat ≤ 32 →
    s.bytesUpTo .txBuf len.toNat = payload →
    execAll (.txstart len :: List.replicate (sendPairs s.cfg payload).length .txstep) s =
      .next { s with outputs := s.outputs ++ .response .ok 0 ::
        (sendPairs s.cfg payload).map fun p => .response .ok (pairWord p) }

/-- 41_receive.md R141 with the two side conditions that the rules need and R141 leaves unsaid (log 12): no
space duration is as long as `IDLE`, and the end marker alone is no byte (`BITS` is not 1 without a check
bit). Then pair feeding what `TX` sends gives exactly one frame event, the payload. -/
def Obligations.ReceiverRecoversTheSentPayload : Prop :=
  ∀ (s : State) (payload : List Byte),
    Inv s → s.en = true → s.rx.state = .unsynced → WindowsSeparate s.cfg →
    s.cfg[9] < s.cfg[12] → s.cfg[11] < s.cfg[12] →
    ¬ (s.cfg[13] = 1 ∧ s.cfg[14] = 0) →
    1 ≤ payload.length → payload.length ≤ s.cfg[17].toNat →
    (∀ v ∈ payload, v.toNat < 2 ^ s.cfg[13].toNat) →
    ∃ t, execAll (feedPairs (sendPairs s.cfg payload)) s = .next t
      ∧ t.outputs.filter PortEvent.isFrame = s.outputs.filter PortEvent.isFrame
          ++ [.frame (s.cfg[18].setWidth 8) payload.length payload]

/-- 41_receive.md R141 with its own side conditions only. Expected to fail (log 12): with `BITS` 1 and no
check bit the end marker completes a byte of its own, and a space duration equal to `IDLE` is an end of
frame. -/
def Obligations.RoundTripAsWorded : Prop :=
  ∀ (s : State) (payload : List Byte),
    Inv s → s.en = true → s.rx.state = .unsynced → WindowsSeparate s.cfg →
    1 ≤ payload.length → payload.length ≤ s.cfg[17].toNat →
    (∀ v ∈ payload, v.toNat < 2 ^ s.cfg[13].toNat) →
    ∃ t, execAll (feedPairs (sendPairs s.cfg payload)) s = .next t
      ∧ t.outputs.filter PortEvent.isFrame = s.outputs.filter PortEvent.isFrame
          ++ [.frame (s.cfg[18].setWidth 8) payload.length payload]
end

