-- ==== Sys2Proof/Laws/State.lean ====
section
/-! SUPPORT. One lemma per field per update of State, each true by rfl, so that no proof unfolds a record
update (spec/10_state.md R20 names the fields). -/

namespace Sys2Proof.Machine

variable (s : State)

/-! ### `setEn` -/

@[simp] theorem setEn_en (b : Bool) : (s.setEn b).en = b := rfl
@[simp] theorem setEn_cfg (b : Bool) : (s.setEn b).cfg = s.cfg := rfl
@[simp] theorem setEn_rx (b : Bool) : (s.setEn b).rx = s.rx := rfl
@[simp] theorem setEn_frameBuf (b : Bool) : (s.setEn b).frameBuf = s.frameBuf := rfl
@[simp] theorem setEn_diag (b : Bool) : (s.setEn b).diag = s.diag := rfl
@[simp] theorem setEn_tx (b : Bool) : (s.setEn b).tx = s.tx := rfl
@[simp] theorem setEn_txBuf (b : Bool) : (s.setEn b).txBuf = s.txBuf := rfl
@[simp] theorem setEn_sa (b : Bool) : (s.setEn b).sa = s.sa := rfl
@[simp] theorem setEn_epoch (b : Bool) : (s.setEn b).epoch = s.epoch := rfl
@[simp] theorem setEn_inputs (b : Bool) : (s.setEn b).inputs = s.inputs := rfl
@[simp] theorem setEn_outputs (b : Bool) : (s.setEn b).outputs = s.outputs := rfl

/-! ### `setCfg` -/

@[simp] theorem setCfg_en (c : Profile) : (s.setCfg c).en = s.en := rfl
@[simp] theorem setCfg_cfg (c : Profile) : (s.setCfg c).cfg = c := rfl
@[simp] theorem setCfg_rx (c : Profile) : (s.setCfg c).rx = s.rx := rfl
@[simp] theorem setCfg_frameBuf (c : Profile) : (s.setCfg c).frameBuf = s.frameBuf := rfl
@[simp] theorem setCfg_diag (c : Profile) : (s.setCfg c).diag = s.diag := rfl
@[simp] theorem setCfg_tx (c : Profile) : (s.setCfg c).tx = s.tx := rfl
@[simp] theorem setCfg_txBuf (c : Profile) : (s.setCfg c).txBuf = s.txBuf := rfl
@[simp] theorem setCfg_sa (c : Profile) : (s.setCfg c).sa = s.sa := rfl
@[simp] theorem setCfg_epoch (c : Profile) : (s.setCfg c).epoch = s.epoch := rfl
@[simp] theorem setCfg_inputs (c : Profile) : (s.setCfg c).inputs = s.inputs := rfl
@[simp] theorem setCfg_outputs (c : Profile) : (s.setCfg c).outputs = s.outputs := rfl

/-! ### `setRx` -/

@[simp] theorem setRx_en (r : RxSession) : (s.setRx r).en = s.en := rfl
@[simp] theorem setRx_cfg (r : RxSession) : (s.setRx r).cfg = s.cfg := rfl
@[simp] theorem setRx_rx (r : RxSession) : (s.setRx r).rx = r := rfl
@[simp] theorem setRx_frameBuf (r : RxSession) : (s.setRx r).frameBuf = s.frameBuf := rfl
@[simp] theorem setRx_diag (r : RxSession) : (s.setRx r).diag = s.diag := rfl
@[simp] theorem setRx_tx (r : RxSession) : (s.setRx r).tx = s.tx := rfl
@[simp] theorem setRx_txBuf (r : RxSession) : (s.setRx r).txBuf = s.txBuf := rfl
@[simp] theorem setRx_sa (r : RxSession) : (s.setRx r).sa = s.sa := rfl
@[simp] theorem setRx_epoch (r : RxSession) : (s.setRx r).epoch = s.epoch := rfl
@[simp] theorem setRx_inputs (r : RxSession) : (s.setRx r).inputs = s.inputs := rfl
@[simp] theorem setRx_outputs (r : RxSession) : (s.setRx r).outputs = s.outputs := rfl

/-! ### `setDiag` -/

@[simp] theorem setDiag_en (d : Diagnostics) : (s.setDiag d).en = s.en := rfl
@[simp] theorem setDiag_cfg (d : Diagnostics) : (s.setDiag d).cfg = s.cfg := rfl
@[simp] theorem setDiag_rx (d : Diagnostics) : (s.setDiag d).rx = s.rx := rfl
@[simp] theorem setDiag_frameBuf (d : Diagnostics) : (s.setDiag d).frameBuf = s.frameBuf := rfl
@[simp] theorem setDiag_diag (d : Diagnostics) : (s.setDiag d).diag = d := rfl
@[simp] theorem setDiag_tx (d : Diagnostics) : (s.setDiag d).tx = s.tx := rfl
@[simp] theorem setDiag_txBuf (d : Diagnostics) : (s.setDiag d).txBuf = s.txBuf := rfl
@[simp] theorem setDiag_sa (d : Diagnostics) : (s.setDiag d).sa = s.sa := rfl
@[simp] theorem setDiag_epoch (d : Diagnostics) : (s.setDiag d).epoch = s.epoch := rfl
@[simp] theorem setDiag_inputs (d : Diagnostics) : (s.setDiag d).inputs = s.inputs := rfl
@[simp] theorem setDiag_outputs (d : Diagnostics) : (s.setDiag d).outputs = s.outputs := rfl

/-! ### `setTx` -/

@[simp] theorem setTx_en (t : TxSession) : (s.setTx t).en = s.en := rfl
@[simp] theorem setTx_cfg (t : TxSession) : (s.setTx t).cfg = s.cfg := rfl
@[simp] theorem setTx_rx (t : TxSession) : (s.setTx t).rx = s.rx := rfl
@[simp] theorem setTx_frameBuf (t : TxSession) : (s.setTx t).frameBuf = s.frameBuf := rfl
@[simp] theorem setTx_diag (t : TxSession) : (s.setTx t).diag = s.diag := rfl
@[simp] theorem setTx_tx (t : TxSession) : (s.setTx t).tx = t := rfl
@[simp] theorem setTx_txBuf (t : TxSession) : (s.setTx t).txBuf = s.txBuf := rfl
@[simp] theorem setTx_sa (t : TxSession) : (s.setTx t).sa = s.sa := rfl
@[simp] theorem setTx_epoch (t : TxSession) : (s.setTx t).epoch = s.epoch := rfl
@[simp] theorem setTx_inputs (t : TxSession) : (s.setTx t).inputs = s.inputs := rfl
@[simp] theorem setTx_outputs (t : TxSession) : (s.setTx t).outputs = s.outputs := rfl

/-! ### `setSa` -/

@[simp] theorem setSa_en (a : Adapter) : (s.setSa a).en = s.en := rfl
@[simp] theorem setSa_cfg (a : Adapter) : (s.setSa a).cfg = s.cfg := rfl
@[simp] theorem setSa_rx (a : Adapter) : (s.setSa a).rx = s.rx := rfl
@[simp] theorem setSa_frameBuf (a : Adapter) : (s.setSa a).frameBuf = s.frameBuf := rfl
@[simp] theorem setSa_diag (a : Adapter) : (s.setSa a).diag = s.diag := rfl
@[simp] theorem setSa_tx (a : Adapter) : (s.setSa a).tx = s.tx := rfl
@[simp] theorem setSa_txBuf (a : Adapter) : (s.setSa a).txBuf = s.txBuf := rfl
@[simp] theorem setSa_sa (a : Adapter) : (s.setSa a).sa = a := rfl
@[simp] theorem setSa_epoch (a : Adapter) : (s.setSa a).epoch = s.epoch := rfl
@[simp] theorem setSa_inputs (a : Adapter) : (s.setSa a).inputs = s.inputs := rfl
@[simp] theorem setSa_outputs (a : Adapter) : (s.setSa a).outputs = s.outputs := rfl

/-! ### `emit` -/

@[simp] theorem emit_en (e : PortEvent) : (s.emit e).en = s.en := rfl
@[simp] theorem emit_cfg (e : PortEvent) : (s.emit e).cfg = s.cfg := rfl
@[simp] theorem emit_rx (e : PortEvent) : (s.emit e).rx = s.rx := rfl
@[simp] theorem emit_frameBuf (e : PortEvent) : (s.emit e).frameBuf = s.frameBuf := rfl
@[simp] theorem emit_diag (e : PortEvent) : (s.emit e).diag = s.diag := rfl
@[simp] theorem emit_tx (e : PortEvent) : (s.emit e).tx = s.tx := rfl
@[simp] theorem emit_txBuf (e : PortEvent) : (s.emit e).txBuf = s.txBuf := rfl
@[simp] theorem emit_sa (e : PortEvent) : (s.emit e).sa = s.sa := rfl
@[simp] theorem emit_epoch (e : PortEvent) : (s.emit e).epoch = s.epoch := rfl
@[simp] theorem emit_inputs (e : PortEvent) : (s.emit e).inputs = s.inputs := rfl
@[simp] theorem emit_outputs (e : PortEvent) : (s.emit e).outputs = s.outputs ++ [e] := rfl

/-! ### `setMem` -/

@[simp] theorem setMem_en (sp : MemSpace) (m : Memory) : (s.setMem sp m).en = s.en := by cases sp <;> rfl
@[simp] theorem setMem_cfg (sp : MemSpace) (m : Memory) : (s.setMem sp m).cfg = s.cfg := by cases sp <;> rfl
@[simp] theorem setMem_rx (sp : MemSpace) (m : Memory) : (s.setMem sp m).rx = s.rx := by cases sp <;> rfl
@[simp] theorem setMem_diag (sp : MemSpace) (m : Memory) : (s.setMem sp m).diag = s.diag := by cases sp <;> rfl
@[simp] theorem setMem_tx (sp : MemSpace) (m : Memory) : (s.setMem sp m).tx = s.tx := by cases sp <;> rfl
@[simp] theorem setMem_sa (sp : MemSpace) (m : Memory) : (s.setMem sp m).sa = s.sa := by cases sp <;> rfl
@[simp] theorem setMem_epoch (sp : MemSpace) (m : Memory) : (s.setMem sp m).epoch = s.epoch := by cases sp <;> rfl
@[simp] theorem setMem_inputs (sp : MemSpace) (m : Memory) : (s.setMem sp m).inputs = s.inputs := by cases sp <;> rfl
@[simp] theorem setMem_outputs (sp : MemSpace) (m : Memory) : (s.setMem sp m).outputs = s.outputs := by cases sp <;> rfl
@[simp] theorem setMem_frameBuf_frameBuf (m : Memory) : (s.setMem .frameBuf m).frameBuf = m := rfl
@[simp] theorem setMem_frameBuf_txBuf (m : Memory) : (s.setMem .frameBuf m).txBuf = s.txBuf := rfl
@[simp] theorem setMem_txBuf_txBuf (m : Memory) : (s.setMem .txBuf m).txBuf = m := rfl
@[simp] theorem setMem_txBuf_frameBuf (m : Memory) : (s.setMem .txBuf m).frameBuf = s.frameBuf := rfl
@[simp] theorem mem_frameBuf : s.mem .frameBuf = s.frameBuf := rfl
@[simp] theorem mem_txBuf : s.mem .txBuf = s.txBuf := rfl

/-! ### `forgetMemories` -/

@[simp] theorem forgetMemories_en : s.forgetMemories.en = s.en := rfl
@[simp] theorem forgetMemories_cfg : s.forgetMemories.cfg = s.cfg := rfl
@[simp] theorem forgetMemories_rx : s.forgetMemories.rx = s.rx := rfl
@[simp] theorem forgetMemories_frameBuf : s.forgetMemories.frameBuf = [] := rfl
@[simp] theorem forgetMemories_diag : s.forgetMemories.diag = s.diag := rfl
@[simp] theorem forgetMemories_tx : s.forgetMemories.tx = s.tx := rfl
@[simp] theorem forgetMemories_txBuf : s.forgetMemories.txBuf = [] := rfl
@[simp] theorem forgetMemories_sa : s.forgetMemories.sa = s.sa := rfl
@[simp] theorem forgetMemories_epoch : s.forgetMemories.epoch = s.epoch + 1 := rfl
@[simp] theorem forgetMemories_inputs : s.forgetMemories.inputs = s.inputs := rfl
@[simp] theorem forgetMemories_outputs : s.forgetMemories.outputs = s.outputs := rfl

/-! ### `rxInit` -/

@[simp] theorem rxInit_en : (rxInit s).en = s.en := rfl
@[simp] theorem rxInit_cfg : (rxInit s).cfg = s.cfg := rfl
@[simp] theorem rxInit_rx : (rxInit s).rx = RxSession.initial := rfl
@[simp] theorem rxInit_frameBuf : (rxInit s).frameBuf = s.frameBuf := rfl
@[simp] theorem rxInit_diag : (rxInit s).diag = s.diag := rfl
@[simp] theorem rxInit_tx : (rxInit s).tx = s.tx := rfl
@[simp] theorem rxInit_txBuf : (rxInit s).txBuf = s.txBuf := rfl
@[simp] theorem rxInit_sa : (rxInit s).sa = s.sa := rfl
@[simp] theorem rxInit_epoch : (rxInit s).epoch = s.epoch := rfl
@[simp] theorem rxInit_inputs : (rxInit s).inputs = s.inputs := rfl
@[simp] theorem rxInit_outputs : (rxInit s).outputs = s.outputs := rfl

/-! ### `txInit` -/

@[simp] theorem txInit_en : (txInit s).en = s.en := rfl
@[simp] theorem txInit_cfg : (txInit s).cfg = s.cfg := rfl
@[simp] theorem txInit_rx : (txInit s).rx = s.rx := rfl
@[simp] theorem txInit_frameBuf : (txInit s).frameBuf = s.frameBuf := rfl
@[simp] theorem txInit_diag : (txInit s).diag = s.diag := rfl
@[simp] theorem txInit_tx : (txInit s).tx = TxSession.initial := rfl
@[simp] theorem txInit_txBuf : (txInit s).txBuf = s.txBuf := rfl
@[simp] theorem txInit_sa : (txInit s).sa = s.sa := rfl
@[simp] theorem txInit_epoch : (txInit s).epoch = s.epoch := rfl
@[simp] theorem txInit_inputs : (txInit s).inputs = s.inputs := rfl
@[simp] theorem txInit_outputs : (txInit s).outputs = s.outputs := rfl

/-! ### `saInit` -/

@[simp] theorem saInit_en : (saInit s).en = s.en := rfl
@[simp] theorem saInit_cfg : (saInit s).cfg = s.cfg := rfl
@[simp] theorem saInit_rx : (saInit s).rx = s.rx := rfl
@[simp] theorem saInit_frameBuf : (saInit s).frameBuf = s.frameBuf := rfl
@[simp] theorem saInit_diag : (saInit s).diag = s.diag := rfl
@[simp] theorem saInit_tx : (saInit s).tx = s.tx := rfl
@[simp] theorem saInit_txBuf : (saInit s).txBuf = s.txBuf := rfl
@[simp] theorem saInit_sa : (saInit s).sa = Adapter.initial := rfl
@[simp] theorem saInit_epoch : (saInit s).epoch = s.epoch := rfl
@[simp] theorem saInit_inputs : (saInit s).inputs = s.inputs := rfl
@[simp] theorem saInit_outputs : (saInit s).outputs = s.outputs := rfl

/-! ### `initSessions` -/

@[simp] theorem initSessions_en : (initSessions s).en = s.en := rfl
@[simp] theorem initSessions_cfg : (initSessions s).cfg = s.cfg := rfl
@[simp] theorem initSessions_rx : (initSessions s).rx = RxSession.initial := rfl
@[simp] theorem initSessions_frameBuf : (initSessions s).frameBuf = s.frameBuf := rfl
@[simp] theorem initSessions_diag : (initSessions s).diag = s.diag := rfl
@[simp] theorem initSessions_tx : (initSessions s).tx = TxSession.initial := rfl
@[simp] theorem initSessions_txBuf : (initSessions s).txBuf = s.txBuf := rfl
@[simp] theorem initSessions_sa : (initSessions s).sa = Adapter.initial := rfl
@[simp] theorem initSessions_epoch : (initSessions s).epoch = s.epoch := rfl
@[simp] theorem initSessions_inputs : (initSessions s).inputs = s.inputs := rfl
@[simp] theorem initSessions_outputs : (initSessions s).outputs = s.outputs := rfl

/-! ### `resetAll` -/

@[simp] theorem resetAll_en : (resetAll s).en = false := rfl
@[simp] theorem resetAll_cfg : (resetAll s).cfg = Profile.zero := rfl
@[simp] theorem resetAll_rx : (resetAll s).rx = RxSession.initial := rfl
@[simp] theorem resetAll_frameBuf : (resetAll s).frameBuf = [] := rfl
@[simp] theorem resetAll_diag : (resetAll s).diag = Diagnostics.initial := rfl
@[simp] theorem resetAll_tx : (resetAll s).tx = TxSession.initial := rfl
@[simp] theorem resetAll_txBuf : (resetAll s).txBuf = [] := rfl
@[simp] theorem resetAll_sa : (resetAll s).sa = Adapter.initial := rfl
@[simp] theorem resetAll_epoch : (resetAll s).epoch = s.epoch + 1 := rfl
@[simp] theorem resetAll_inputs : (resetAll s).inputs = s.inputs := rfl
@[simp] theorem resetAll_outputs : (resetAll s).outputs = s.outputs := rfl

/-! ### `clearVotes` -/

@[simp] theorem clearVotes_en : (clearVotes s).en = s.en := rfl
@[simp] theorem clearVotes_cfg : (clearVotes s).cfg = s.cfg := rfl
@[simp] theorem clearVotes_rx : (clearVotes s).rx = { s.rx with markSeen := false, zv := false, ov := false } := rfl
@[simp] theorem clearVotes_frameBuf : (clearVotes s).frameBuf = s.frameBuf := rfl
@[simp] theorem clearVotes_diag : (clearVotes s).diag = s.diag := rfl
@[simp] theorem clearVotes_tx : (clearVotes s).tx = s.tx := rfl
@[simp] theorem clearVotes_txBuf : (clearVotes s).txBuf = s.txBuf := rfl
@[simp] theorem clearVotes_sa : (clearVotes s).sa = s.sa := rfl
@[simp] theorem clearVotes_epoch : (clearVotes s).epoch = s.epoch := rfl
@[simp] theorem clearVotes_inputs : (clearVotes s).inputs = s.inputs := rfl
@[simp] theorem clearVotes_outputs : (clearVotes s).outputs = s.outputs := rfl

end Sys2Proof.Machine
end

