-- ==== Sys2Proof/Laws/Memory.lean ====
section
/-! SUPPORT. The laws of the byte memories (spec/20_memory.md R60 to R62): read after write, the canonical
form and that every memory operation keeps it, and that memories in canonical form that read alike are
equal. -/

namespace Sys2Proof.Machine

@[simp] theorem memGet_nil (a : Nat) : memGet a [] = none := rfl

/-- Read after write: the written address holds the value, every other address what it held. -/
@[simp] theorem memGet_memPut (a b : Nat) (v : Byte) (m : Memory) :
    memGet a (memPut b v m) = if a = b then some v else memGet a m := by
  induction m with
  | nil => by_cases h : a = b <;> simp [memPut, memGet, h]
  | cons c m ih =>
    obtain ⟨k, w⟩ := c
    simp only [memPut]
    split
    · simp [memGet]
    · split
      · next hbk => subst hbk; by_cases h : a = b <;> simp [memGet, h]
      · next hlt hne =>
        simp only [memGet, ih]
        by_cases hak : a = k
        · have hkb : k ≠ b := fun h => hne h.symm
          simp [hak, hkb]
        · simp [hak]

/-- A rising memory also rises from any lower bound. -/
theorem risingFrom_mono {lo lo' hi : Nat} {m : Memory} (hle : lo' ≤ lo)
    (h : Memory.risingFrom lo hi m = true) : Memory.risingFrom lo' hi m = true := by
  cases m with
  | nil => rfl
  | cons c m =>
    simp only [Memory.risingFrom, Bool.and_eq_true, decide_eq_true_eq] at h ⊢
    exact ⟨⟨by omega, h.1.2⟩, h.2⟩

/-- Writing an address in bounds keeps a memory rising. -/
theorem risingFrom_memPut {lo hi a : Nat} {v : Byte} {m : Memory} (hlo : lo ≤ a) (hhi : a < hi)
    (h : Memory.risingFrom lo hi m = true) : Memory.risingFrom lo hi (memPut a v m) = true := by
  induction m generalizing lo with
  | nil => simp [memPut, Memory.risingFrom, hlo, hhi]
  | cons c m ih =>
    obtain ⟨k, w⟩ := c
    simp only [Memory.risingFrom, Bool.and_eq_true, decide_eq_true_eq] at h
    simp only [memPut]
    split
    · simp only [Memory.risingFrom, Bool.and_eq_true, decide_eq_true_eq]
      exact ⟨⟨hlo, hhi⟩, ⟨by omega, h.1.2⟩, h.2⟩
    · split
      · next hak =>
        simp only [Memory.risingFrom, Bool.and_eq_true, decide_eq_true_eq]
        exact ⟨⟨hlo, hhi⟩, hak ▸ h.2⟩
      · simp only [Memory.risingFrom, Bool.and_eq_true, decide_eq_true_eq]
        exact ⟨h.1, ih (by omega) h.2⟩

/-- Below its lower bound a rising memory lists nothing. -/
theorem memGet_below {lo hi a : Nat} {m : Memory} (h : Memory.risingFrom lo hi m = true)
    (ha : a < lo) : memGet a m = none := by
  induction m generalizing lo with
  | nil => rfl
  | cons c m ih =>
    simp only [Memory.risingFrom, Bool.and_eq_true, decide_eq_true_eq] at h
    have hne : a ≠ c.1 := by omega
    simp only [memGet, hne, if_false]
    exact ih h.2 (by omega)

/-- Memories in canonical form that read alike at every address are equal data. -/
theorem rising_ext {lo hi : Nat} {m n : Memory} (hm : Memory.risingFrom lo hi m = true)
    (hn : Memory.risingFrom lo hi n = true) (h : ∀ a, memGet a m = memGet a n) : m = n := by
  induction m generalizing lo n with
  | nil =>
    cases n with
    | nil => rfl
    | cons c n => have := h c.1; simp [memGet] at this
  | cons c m ih =>
    cases n with
    | nil => have := h c.1; simp [memGet] at this
    | cons d n =>
      obtain ⟨k, v⟩ := c
      obtain ⟨j, w⟩ := d
      simp only [Memory.risingFrom, Bool.and_eq_true, decide_eq_true_eq] at hm hn
      have hkj : k = j := by
        rcases Nat.lt_trichotomy k j with hlt | heq | hgt
        · have hk := h k
          have hne : k ≠ j := by omega
          simp [memGet, hne, memGet_below hn.2 (show k < j + 1 by omega)] at hk
        · exact heq
        · have hj := h j
          have hne : j ≠ k := by omega
          simp [memGet, hne, memGet_below hm.2 (show j < k + 1 by omega)] at hj
      subst hkj
      have hvw : v = w := by have := h k; simpa [memGet] using this
      subst hvw
      refine congrArg _ (ih hm.2 hn.2 fun a => ?_)
      by_cases ha : a = k
      · rw [memGet_below hm.2 (by omega), memGet_below hn.2 (by omega)]
      · have := h a
        simpa [memGet, ha] using this

@[simp] theorem wf_nil (sp : MemSpace) : Memory.wf sp [] = true := rfl

/-- A write to an address that exists keeps the canonical form. -/
theorem wf_memPut {sp : MemSpace} {a : Nat} {v : Byte} {m : Memory} (ha : a < Config.bufBytes sp)
    (h : Memory.wf sp m = true) : Memory.wf sp (memPut a v m) = true :=
  risingFrom_memPut (Nat.zero_le a) ha h

/-- All `memWrite` can do: the address exists and just that byte is written. -/
theorem memWrite_ok {sp : MemSpace} {a : Nat} {v : Byte} {s t : State}
    (h : memWrite sp a v s = .ok t) :
    a < Config.bufBytes sp ∧ t = s.setMem sp (memPut a v (s.mem sp)) := by
  unfold memWrite at h
  split at h
  · next ha => exact ⟨ha, by cases h; rfl⟩
  · cases h

theorem memWrite_eq {sp : MemSpace} {a : Nat} (v : Byte) (s : State)
    (h : a < Config.bufBytes sp) :
    memWrite sp a v s = .ok (s.setMem sp (memPut a v (s.mem sp))) := by
  simp only [memWrite, if_pos h]

/-- All `memRead` can do: the address exists and the byte there is read. -/
theorem memRead_ok {sp : MemSpace} {a : Nat} {v : Byte} {s : State} (h : memRead sp a s = .ok v) :
    a < Config.bufBytes sp ∧ v = s.byteAt sp a := by
  unfold memRead at h
  split at h
  · next ha => exact ⟨ha, by cases h; rfl⟩
  · cases h

theorem memRead_eq {sp : MemSpace} {a : Nat} (s : State) (h : a < Config.bufBytes sp) :
    memRead sp a s = .ok (s.byteAt sp a) := by
  simp only [memRead, if_pos h]

/-- `memWrite` keeps both memories in canonical form. -/
theorem memWrite_wf {sp : MemSpace} {a : Nat} {v : Byte} {s t : State}
    (h : memWrite sp a v s = .ok t) (hf : Memory.wf .frameBuf s.frameBuf = true)
    (ht : Memory.wf .txBuf s.txBuf = true) :
    Memory.wf .frameBuf t.frameBuf = true ∧ Memory.wf .txBuf t.txBuf = true := by
  obtain ⟨ha, rfl⟩ := memWrite_ok h
  cases sp with
  | frameBuf => exact ⟨wf_memPut ha hf, ht⟩
  | txBuf => exact ⟨hf, wf_memPut ha ht⟩

/-- Reset's memories are in canonical form. -/
theorem reset_wf :
    Memory.wf .frameBuf State.reset.frameBuf = true ∧ Memory.wf .txBuf State.reset.txBuf = true :=
  ⟨rfl, rfl⟩

end Sys2Proof.Machine
end

