-- ==== Sys2Proof/Laws/Ops.lean ====
section
/-! SUPPORT. One lemma per shared operation that says once everything it can do: answering, the flush,
`rx_reset` (spec/41_receive.md R135), the command port (spec/20_memory.md R70). -/

namespace Sys2Proof.Machine

@[simp] theorem complete_ok (s : State) : complete (.ok s) = respond .ok 0 s := rfl
@[simp] theorem complete_error (f : Fault) : complete (.error f) = .fault f := rfl

/-- All `respond` can do: one response. -/
theorem respond_next {st : Status} {rd : Word} {s t : State} (h : respond st rd s = .next t) :
    t = s.emit (.response st rd) := by
  simpa [respond] using h.symm

/-- All `complete` can do: the operation ended well and answers `OK 0`. -/
theorem complete_next {r : Except Fault State} {t : State} (h : complete r = .next t) :
    ∃ s, r = .ok s ∧ t = s.emit (.response .ok 0) := by
  cases r with
  | ok s => exact ⟨s, rfl, respond_next h⟩
  | error f => cases h

/-- All `flush` can do: nothing without a complete byte, else one frame event. -/
theorem flush_ok {s t : State} (h : flush s = .ok t) :
    (s.rx.len.toNat = 0 ∧ t = s)
      ∨ (1 ≤ s.rx.len.toNat ∧ s.rx.len.toNat ≤ 32 ∧ t = s.emit (frameEvent s)) := by
  unfold flush at h
  split at h
  · next h0 => exact .inl ⟨h0, by cases h; rfl⟩
  · split at h
    · next h0 h32 => exact .inr ⟨by omega, h32, by cases h; rfl⟩
    · cases h

/-- The flush succeeds unless the length exceeds the memory. -/
theorem flush_eq (s : State) (h : s.rx.len.toNat ≤ 32) :
    flush s = .ok (if s.rx.len.toNat = 0 then s else s.emit (frameEvent s)) := by
  unfold flush
  by_cases h0 : s.rx.len.toNat = 0
  · rw [if_pos h0, if_pos h0]
  · rw [if_neg h0, if_neg h0]
    exact if_pos h

/-- All `recordCause` can do: nothing for end of frame, else the code and one count. -/
theorem recordCause_eq (c : ResetCause) (s : State) :
    recordCause c s = s.setDiag
      (match c.errCode with
        | none => s.diag
        | some e => ⟨satInc s.diag.errCnt, e⟩) := by
  cases c <;> rfl

/-- All `rxReset` can do: flush, record, initialise. -/
theorem rxReset_ok {c : ResetCause} {s t : State} (h : rxReset c s = .ok t) :
    ∃ s1, flush s = .ok s1 ∧ t = rxInit (recordCause c s1) := by
  unfold rxReset at h
  split at h
  · next s1 hs => exact ⟨s1, hs, by cases h; rfl⟩
  · cases h

/-- `rxReset` succeeds unless the length exceeds the memory. -/
theorem rxReset_eq (c : ResetCause) (s : State) (h : s.rx.len.toNat ≤ 32) :
    rxReset c s =
      .ok (rxInit (recordCause c (if s.rx.len.toNat = 0 then s else s.emit (frameEvent s)))) := by
  rw [rxReset, flush_eq s h]

/-- All `nextInput` can do: take the first input. -/
theorem nextInput_some {s s1 : State} {i : PortInput} (h : nextInput s = some (i, s1)) :
    ∃ rest, s.inputs = i :: rest ∧ s1 = { s with inputs := rest } := by
  unfold nextInput at h
  split at h
  · cases h
  · next j rest hs => cases h; exact ⟨rest, hs, rfl⟩

theorem nextInput_cons {s : State} {i : PortInput} {rest : List PortInput}
    (h : s.inputs = i :: rest) : nextInput s = some (i, { s with inputs := rest }) := by
  simp only [nextInput, h]

/-- The saturating increment never falls back to 0. -/
theorem satInc_ne_zero (v : BitVec 16) : satInc v ≠ 0 := by
  unfold satInc
  split
  · next h => simp [h]
  · next h => intro h0; apply h; bv_omega

/-- The two ways of writing the saturating increment agree. -/
theorem satInc_eq (v : BitVec 16) : satInc v = plusOneSat v := by
  unfold satInc plusOneSat
  by_cases h : v = 0xFFFF#16
  · subst h; rfl
  · rw [if_neg h, if_pos (by bv_omega)]
    rfl

/-- The clauses of `profileOk`, by register number. -/
theorem profileOk_iff (c : Profile) : profileOk c = true ↔ LegalProfile c := by
  simp only [profileOk, Bool.and_eq_true, decide_eq_true_eq]
  simp only [LegalProfile, Profile.bits, Profile.parity, Profile.order, Profile.sync,
    Profile.maxFrame, Profile.chid, Profile.idle, Profile.rMaxZeroMark, Profile.rMaxZeroSpace,
    Profile.rMaxOneMark, Profile.rMaxOneSpace, Profile.wZeroMark, Profile.wOneMark, Config.bufBytes]
  tauto

end Sys2Proof.Machine
end

