-- ==== Sys2Proof/Laws/PerInstr.lean ====
section
/-! SUPPORT. The per-instruction family `EncodedOpcode`: the opcode bits 31:28 of every command's encoding
are the opcode that spec/30_encoding.md R83 gives it. -/

namespace Sys2Proof

/-- The opcode of a command (30_encoding.md R83). -/
def opcodeOf : Instr → BitVec 4
  | .nop => 0x0
  | .reset => 0x1
  | .cfgw _ _ => 0x2
  | .cfgr _ => 0x3
  | .enable => 0x4
  | .disable => 0x5
  | .feed _ _ => 0x6
  | .sample _ => 0x7
  | .txload _ _ => 0x8
  | .txstart _ => 0x9
  | .txstep => 0xA
  | .strd _ => 0xB

/-- Bits 31:28 of the encoding are the command's opcode. -/
def Laws.EncodedOpcode.Statement (i : Instr) : Prop := field (encode i) 28 4 = opcodeOf i

theorem opcode_formatZ (op : BitVec 4) : field (formatZ op) 28 4 = op :=
  BitVec.extractLsb'_append_eq_left

theorem opcode_formatS (op : BitVec 4) (b : BitVec 8) : field (formatS op b) 28 4 = op :=
  (BitVec.extractLsb'_append_eq_of_le (by omega)).trans BitVec.extractLsb'_append_eq_left

theorem opcode_formatC (op : BitVec 4) (idx : BitVec 5) (val : BitVec 16) :
    field (formatC op idx val) 28 4 = op :=
  (BitVec.extractLsb'_append_eq_of_le (by omega)).trans
    ((BitVec.extractLsb'_append_eq_of_le (by omega)).trans BitVec.extractLsb'_append_eq_left)

theorem opcode_formatF (op : BitVec 4) (lvl : Bool) (dur : BitVec 16) :
    field (formatF op lvl dur) 28 4 = op :=
  (BitVec.extractLsb'_append_eq_of_le (by omega)).trans
    ((BitVec.extractLsb'_append_eq_of_le (by omega)).trans BitVec.extractLsb'_append_eq_left)

theorem opcode_formatB (op : BitVec 4) (addr data : BitVec 8) :
    field (formatB op addr data) 28 4 = op :=
  (BitVec.extractLsb'_append_eq_of_le (by omega)).trans
    ((BitVec.extractLsb'_append_eq_of_le (by omega)).trans
      ((BitVec.extractLsb'_append_eq_of_le (by omega)).trans BitVec.extractLsb'_append_eq_left))

theorem Laws.EncodedOpcode.nop :
    Laws.EncodedOpcode.Statement .nop := opcode_formatZ _
theorem Laws.EncodedOpcode.reset :
    Laws.EncodedOpcode.Statement .reset := opcode_formatZ _
theorem Laws.EncodedOpcode.cfgw (idx : BitVec 5) (val : Duration) :
    Laws.EncodedOpcode.Statement (.cfgw idx val) := opcode_formatC _ _ _
theorem Laws.EncodedOpcode.cfgr (idx : BitVec 5) :
    Laws.EncodedOpcode.Statement (.cfgr idx) := opcode_formatC _ _ _
theorem Laws.EncodedOpcode.enable :
    Laws.EncodedOpcode.Statement .enable := opcode_formatZ _
theorem Laws.EncodedOpcode.disable :
    Laws.EncodedOpcode.Statement .disable := opcode_formatZ _
theorem Laws.EncodedOpcode.feed (lvl : Level) (dur : Duration) :
    Laws.EncodedOpcode.Statement (.feed lvl dur) := opcode_formatF _ _ _
theorem Laws.EncodedOpcode.sample (smp : Byte) :
    Laws.EncodedOpcode.Statement (.sample smp) := opcode_formatS _ _
theorem Laws.EncodedOpcode.txload (addr : BitVec 8) (data : Byte) :
    Laws.EncodedOpcode.Statement (.txload addr data) := opcode_formatB _ _ _
theorem Laws.EncodedOpcode.txstart (len : BitVec 8) :
    Laws.EncodedOpcode.Statement (.txstart len) := opcode_formatS _ _
theorem Laws.EncodedOpcode.txstep :
    Laws.EncodedOpcode.Statement .txstep := opcode_formatZ _
theorem Laws.EncodedOpcode.strd (idx : BitVec 5) :
    Laws.EncodedOpcode.Statement (.strd idx) := opcode_formatC _ _ _

end Sys2Proof
end

