-- ==== Sys2Proof/Laws/Receive.lean ====
section
/-! SUPPORT. What each operation of the receive state machine and of the sample adapter can do, said once
(spec/41_receive.md R121 to R135, spec/42_sample_adapter.md R152 to R155). -/

namespace Sys2Proof.Machine

/-- All `rxByteDone` can do: the byte is stored at `rx_len`, and the frame is full or not. -/
theorem rxByteDone_ok {s t : State} (h : rxByteDone s = .ok t) :
    ∃ s2, s2 = (s.setMem .frameBuf (memPut s.rx.len.toNat s.rx.acc s.frameBuf)).setRx
        { s.rx with len := s.rx.len + 1, acc := 0, bitCnt := 0, par := false }
      ∧ s.rx.len.toNat < 32
      ∧ ((s.rx.len.toNat + 1 = s.cfg.maxFrame.toNat ∧ rxReset .overflow s2 = .ok t)
        ∨ (s.rx.len.toNat + 1 ≠ s.cfg.maxFrame.toNat ∧ t = s2)) := by
  unfold rxByteDone at h
  split at h
  · cases h
  · next s1 hw =>
    obtain ⟨hlt, rfl⟩ := memWrite_ok hw
    have hlt' : s.rx.len.toNat < 32 := hlt
    have hlen : (s.rx.len + 1).toNat = s.rx.len.toNat + 1 := by bv_omega
    refine ⟨_, rfl, hlt', ?_⟩
    dsimp only at h
    split at h
    · next hfull => exact .inl ⟨hlen.symm.trans hfull, h⟩
    · next hfull => exact .inr ⟨fun hf => hfull (hlen.trans hf), by cases h; rfl⟩

/-- All `rxSyncBit` can do. -/
theorem rxSyncBit_ok {b : Bool} {s t : State} (h : rxSyncBit b s = .ok t) :
    (b = true ∧ s.cfg.sync.toNat ≤ s.rx.syncCnt.toNat
        ∧ t = s.setRx { s.rx with
            state := .synced, syncCnt := 0, bitCnt := 0, acc := 0, par := false })
      ∨ (b = true ∧ s.rx.syncCnt.toNat < s.cfg.sync.toNat ∧ rxReset .syncFail s = .ok t)
      ∨ (b = false ∧ t = s.setRx { s.rx with
            state := .syncing
            syncCnt := if s.rx.syncCnt.toNat < s.cfg.sync.toNat then s.rx.syncCnt + 1
              else s.rx.syncCnt }) := by
  unfold rxSyncBit at h
  split at h
  · next hb =>
    split at h
    · next hc => exact .inl ⟨hb, hc, by cases h; rfl⟩
    · next hc => exact .inr (.inl ⟨hb, by omega, h⟩)
  · next hb => exact .inr (.inr ⟨by simpa using hb, by cases h; rfl⟩)

/-- All `rxDataBit` can do: a data bit that completes its byte or not, a check bit that passes or not. -/
theorem rxDataBit_ok {b : Bool} {s t : State} (h : rxDataBit b s = .ok t) :
    (∃ s1, s1 = s.setRx { s.rx with
          acc := shiftIn s.cfg s.rx.acc s.rx.bitCnt.toNat b
          par := s.rx.par ^^ b
          bitCnt := s.rx.bitCnt + 1 }
        ∧ s.rx.bitCnt.toNat < s.cfg.bits.toNat
        ∧ (((s.rx.bitCnt + 1).toNat = s.cfg.bits.toNat ∧ s.cfg.parity = 0 ∧ rxByteDone s1 = .ok t)
          ∨ (¬ ((s.rx.bitCnt + 1).toNat = s.cfg.bits.toNat ∧ s.cfg.parity = 0) ∧ t = s1)))
      ∨ (s.rx.bitCnt.toNat = s.cfg.bits.toNat
        ∧ ((checkOk s.cfg.parity s.rx.par b = some true ∧ rxByteDone s = .ok t)
          ∨ (checkOk s.cfg.parity s.rx.par b = some false ∧ rxReset .parityErr s = .ok t))) := by
  unfold rxDataBit at h
  split at h
  · next hlt =>
    refine .inl ⟨_, rfl, hlt, ?_⟩
    unfold rxShiftBit at h
    dsimp only at h
    split at h
    · next hc => exact .inl ⟨hc.1, hc.2, h⟩
    · next hc => exact .inr ⟨hc, by cases h; rfl⟩
  · split at h
    · next heq =>
      refine .inr ⟨heq, ?_⟩
      unfold rxCheckBit at h
      split at h
      · cases h
      · next hc => exact .inl ⟨hc, h⟩
      · next hc => exact .inr ⟨hc, h⟩
    · cases h

/-- All `rxSpace` can do: nothing without a mark, a tie, or a decoded bit. -/
theorem rxSpace_ok {d : Duration} {s t : State} (h : rxSpace d s = .ok t) :
    (s.rx.markSeen = false ∧ t = s)
      ∨ (s.rx.markSeen = true ∧ zeroVotes s d = oneVotes s d ∧ rxReset .tie (clearVotes s) = .ok t)
      ∨ (s.rx.markSeen = true ∧ zeroVotes s d ≠ oneVotes s d ∧
          ((s.rx.state = .synced
              ∧ rxDataBit (decide (zeroVotes s d < oneVotes s d)) (clearVotes s) = .ok t)
            ∨ (s.rx.state ≠ .synced
              ∧ rxSyncBit (decide (zeroVotes s d < oneVotes s d)) (clearVotes s) = .ok t))) := by
  unfold rxSpace at h
  split at h
  · next hm =>
    split at h
    · next hz => exact .inr (.inl ⟨hm, hz, h⟩)
    · next hz =>
      refine .inr (.inr ⟨hm, hz, ?_⟩)
      unfold rxBit at h
      split at h
      · next hs => exact .inl ⟨hs, h⟩
      · next hs => exact .inr ⟨hs, h⟩
  · next hm => exact .inl ⟨by simpa using hm, by cases h; rfl⟩

/-- All `rxFeed` can do: a mark half, an end of frame, a space half. -/
theorem rxFeed_ok {d : Duration} {l : Level} {s t : State} (h : rxFeed d l s = .ok t) :
    (l = .mark ∧ t = rxMark d s)
      ∨ (l = .space ∧ s.cfg.idle ≤ d ∧ rxReset .eof s = .ok t)
      ∨ (l = .space ∧ ¬ s.cfg.idle ≤ d ∧ rxSpace d s = .ok t) := by
  cases l with
  | mark => exact .inl ⟨rfl, by simpa [rxFeed] using h.symm⟩
  | space =>
    simp only [rxFeed] at h
    split at h
    · next hi => exact .inr (.inl ⟨rfl, hi, h⟩)
    · next hi => exact .inr (.inr ⟨rfl, hi, h⟩)

/-- All `saSample` can do: start the first run, grow the run, grow it and time out, report it. -/
theorem saSample_ok {timeout : Bool} {l : Level} {s t : State} (h : saSample timeout l s = .ok t) :
    (s.sa.valid = false ∧ t = s.setSa ⟨true, l, 1⟩)
      ∨ (s.sa.valid = true ∧ l = s.sa.level ∧ timesOut timeout s s.sa.run (satInc s.sa.run) = false
          ∧ t = s.setSa { s.sa with run := satInc s.sa.run })
      ∨ (s.sa.valid = true ∧ l = s.sa.level ∧ timesOut timeout s s.sa.run (satInc s.sa.run) = true
          ∧ rxFeed (satInc s.sa.run) .space (s.setSa { s.sa with run := satInc s.sa.run }) = .ok t)
      ∨ (s.sa.valid = true ∧ l ≠ s.sa.level
          ∧ ∃ s1, rxFeed s.sa.run s.sa.level s = .ok s1
            ∧ t = s1.setSa { s1.sa with level := l, run := 1 }) := by
  unfold saSample at h
  split at h
  · next hv =>
    split at h
    · next hl =>
      unfold saSame at h
      dsimp only at h
      split at h
      · next ht => exact .inr (.inr (.inl ⟨hv, hl, ht, h⟩))
      · next ht => exact .inr (.inl ⟨hv, hl, by simpa using ht, by cases h; rfl⟩)
    · next hl =>
      unfold saEdge at h
      split at h
      · cases h
      · next s1 hs => exact .inr (.inr (.inr ⟨hv, hl, s1, hs, by cases h; rfl⟩))
  · next hv => exact .inl ⟨by simpa using hv, by cases h; rfl⟩

end Sys2Proof.Machine
end

