-- ==== Sys2Proof/Laws/Transmit.lean ====
section
/-! SUPPORT. What each operation of the transmit state machine can do, said once
(spec/43_transmit.md R163 to R168). -/

namespace Sys2Proof.Machine

/-- All `txSync` can do: a zero pair and a count, or the one pair and the move to `Data`. -/
theorem txSync_cases (s : State) :
    (s.tx.bitIdx.toNat < s.cfg.sync.toNat
        ∧ txSync s = (pairOf s.cfg false, s.setTx { s.tx with bitIdx := s.tx.bitIdx + 1 }))
      ∨ (s.cfg.sync.toNat ≤ s.tx.bitIdx.toNat
        ∧ txSync s = (pairOf s.cfg true,
            s.setTx { s.tx with state := .data, byteIdx := 0, bitIdx := 0, par := false })) := by
  unfold txSync
  split
  · next h => exact .inl ⟨h, rfl⟩
  · next h => exact .inr ⟨by omega, rfl⟩

/-- All `txDataBit` can do: the pair of the next bit, counted, and with no parity the next byte. -/
theorem txDataBit_ok {s t : State} {p : Pair} (h : txDataBit s = .ok (p, t)) :
    ∃ b, b = txBitOf s.cfg (s.byteAt .txBuf s.tx.byteIdx.toNat) s.tx.bitIdx.toNat
      ∧ s.tx.byteIdx.toNat < 32 ∧ p = pairOf s.cfg b
      ∧ t = s.setTx
          (if (s.tx.bitIdx + 1).toNat = s.cfg.bits.toNat ∧ s.cfg.parity = 0 then
            nextByte { s.tx with par := s.tx.par ^^ b, bitIdx := s.tx.bitIdx + 1 }
          else { s.tx with par := s.tx.par ^^ b, bitIdx := s.tx.bitIdx + 1 }) := by
  unfold txDataBit at h
  split at h
  · cases h
  · next v hv =>
    obtain ⟨ha, rfl⟩ := memRead_ok hv
    cases h
    exact ⟨_, rfl, ha, rfl, rfl⟩

/-- All `txCheckBit` can do: the check bit's pair and the next byte. -/
theorem txCheckBit_ok {s t : State} {p : Pair} (h : txCheckBit s = .ok (p, t)) :
    ∃ b, checkBit s.cfg.parity s.tx.par = some b ∧ p = pairOf s.cfg b
      ∧ t = s.setTx (nextByte s.tx) := by
  unfold txCheckBit at h
  split at h
  · cases h
  · next b hb => cases h; exact ⟨b, hb, rfl, rfl⟩

/-- All `txData` can do: the end marker, a data bit, a check bit. -/
theorem txData_ok {s t : State} {p : Pair} (h : txData s = .ok (p, t)) :
    (s.tx.byteIdx = s.tx.len ∧ p = pairOf s.cfg false ∧ t = s.setTx { s.tx with state := .done })
      ∨ (s.tx.byteIdx < s.tx.len ∧ s.tx.bitIdx.toNat < s.cfg.bits.toNat
          ∧ txDataBit s = .ok (p, t))
      ∨ (s.tx.byteIdx < s.tx.len ∧ s.tx.bitIdx.toNat = s.cfg.bits.toNat
          ∧ txCheckBit s = .ok (p, t)) := by
  unfold txData at h
  split at h
  · next he => cases h; exact .inl ⟨he, rfl, rfl⟩
  · next hne =>
    split at h
    · cases h
    · next hnlt =>
      have hlt : s.tx.byteIdx < s.tx.len := by bv_omega
      split at h
      · next hb => exact .inr (.inl ⟨hlt, hb, h⟩)
      · split at h
        · next hb => exact .inr (.inr ⟨hlt, hb, h⟩)
        · cases h

/-- All `txStep` can do, by `tx_state`. -/
theorem txStep_ok {s t : State} {p : Pair} (h : txStep s = .ok (p, t)) :
    (s.tx.state = .idle ∧ p = idleMarker s.cfg ∧ t = s)
      ∨ (s.tx.state = .sync ∧ (p, t) = txSync s)
      ∨ (s.tx.state = .data ∧ txData s = .ok (p, t))
      ∨ (s.tx.state = .done ∧ p = idleMarker s.cfg ∧ t = txInit s) := by
  unfold txStep at h
  split at h
  · next hs => cases h; exact .inl ⟨hs, rfl, rfl⟩
  · next hs => exact .inr (.inl ⟨hs, by simpa using h.symm⟩)
  · next hs => exact .inr (.inr (.inl ⟨hs, h⟩))
  · next hs => cases h; exact .inr (.inr (.inr ⟨hs, rfl, rfl⟩))

end Sys2Proof.Machine
end

