-- ==== Sys2Proof/Tests/Slice0.lean ====
section
/-! SUPPORT. The model's own tests: ill-formed operands are refused, words written out from
spec/30_encoding.md decode, single steps give what spec/95_test_vectors.md lists, and for every statement
with hypotheses a concrete state and operands that meet them. -/

namespace Sys2Proof.Tests

open Sys2Proof.Machine

/-! ### Well-formedness: each check refuses an ill-formed term (spec/30_encoding.md R92) -/

theorem test_wf_cfgw : (Instr.cfgw 19 0).check = some (.cfgIndex 19) := by decide
theorem test_wf_cfgr : (Instr.cfgr 31).check = some (.cfgIndex 31) := by decide
theorem test_wf_strd : (Instr.strd 17).check = some (.statIndex 17) := by decide
theorem test_wf_txload : (Instr.txload 32 0).check = some (.txAddress 32) := by decide
theorem test_wf_txstart : (Instr.txstart 33).check = some (.txLength 33) := by decide
theorem test_wf_accepts : (Instr.cfgw 18 0).WellFormed ∧ (Instr.strd 16).WellFormed
    ∧ (Instr.txload 31 0).WellFormed ∧ (Instr.txstart 32).WellFormed := by decide

/-! ### Decoding: words written out bit by bit from the formats of spec/30_encoding.md R81, R83 -/

theorem test_decode_nop : decode 0b0000_0000000000000000000000000000#32 = .ok .nop := rfl
theorem test_decode_reset : decode 0b0001_0000000000000000000000000000#32 = .ok .reset := rfl
theorem test_decode_cfgw :
    decode 0b0010_0000000_01100_0000001110000100#32 = .ok (.cfgw 12 900) := rfl
theorem test_decode_cfgr :
    decode 0b0011_0000000_10010_0000000000000000#32 = .ok (.cfgr 18) := rfl
theorem test_decode_enable : decode 0b0100_0000000000000000000000000000#32 = .ok .enable := rfl
theorem test_decode_disable :
    decode 0b0101_0000000000000000000000000000#32 = .ok .disable := rfl
theorem test_decode_feed_mark :
    decode 0b0110_00000000000_1_0000000110010000#32 = .ok (.feed .mark 400) := rfl
theorem test_decode_feed_space :
    decode 0b0110_00000000000_0_0000010100010100#32 = .ok (.feed .space 1300) := rfl
theorem test_decode_sample :
    decode 0b0111_00000000000000000000_10000001#32 = .ok (.sample 0x81) := rfl
theorem test_decode_txload :
    decode 0b1000_0000_00000011_00000000_00010010#32 = .ok (.txload 3 0x12) := rfl
theorem test_decode_txstart :
    decode 0b1001_00000000000000000000_00000101#32 = .ok (.txstart 5) := rfl
theorem test_decode_txstep : decode 0b1010_0000000000000000000000000000#32 = .ok .txstep := rfl
theorem test_decode_strd :
    decode 0b1011_0000000_00110_0000000000000000#32 = .ok (.strd 6) := rfl

/-- The illegal words of 95_test_vectors.md section 3.1. -/
theorem test_decode_illegal :
    [0xC0000000#32, 0xFFFFFFFF#32].map decode =
        [.error .reservedOpcode, .error .reservedOpcode]
      ∧ [0x00000001#32, 0x60020000#32, 0x30000001#32, 0x70000100#32, 0x80000100#32, 0xA0000001#32,
          0x20200000#32].map decode = List.replicate 7 (.error .reservedBit) := ⟨rfl, rfl⟩

theorem test_decodeTableWord : decodeTableWord 32 0x200C0384 = some (.cfgw 12 900) := rfl

/-! ### Small states -/

/-- Profile T1 of 95_test_vectors.md section 1. -/
def t1 : Profile :=
  #v[300, 300, 500, 500, 500, 500, 700, 700, 400, 400, 600, 600, 900, 8, 2, 1, 6, 8, 0x66]

/-- Profile T2 of 95_test_vectors.md section 1. -/
def t2 : Profile :=
  #v[3, 3, 8, 8, 7, 7, 12, 12, 5, 5, 10, 10, 50, 4, 1, 0, 2, 4, 0x65]

/-- "enabled(T)" of 95_test_vectors.md. -/
def enabled (c : Profile) : State := { State.reset with en := true, cfg := c }

/-- A session `Synced` with one byte received and the next `rx_bitcnt` bits of the following one. -/
def synced (c : Profile) (v : Byte) (bitCnt : BitVec 4) (acc : Byte) (par : Bool) : State :=
  { enabled c with
    frameBuf := [(0, v)]
    rx := { RxSession.initial with
      state := .synced, len := 1, bitCnt := bitCnt, acc := acc, par := par } }

/-- A mark half pending that voted for the given bit only. -/
def marked (s : State) (b : Bool) : State :=
  { s with rx := { s.rx with markSeen := true, zv := !b, ov := b } }

/-- A send of the given state of the transmit session. -/
def sending (c : Profile) (t : TxSession) : State := { enabled c with txBuf := [(0, 5), (1, 14)], tx := t }

/-- An adapter in the given run, with one byte received. -/
def sampling (l : Level) (run : Duration) : State :=
  { synced t2 9 0 0 false with sa := ⟨true, l, run⟩ }

/-- The state a step answers, if it answers one. -/
def nextOf : Answer → Option State
  | .next t => some t
  | _ => none

/-- What a step put on the ports. -/
def shown (a : Answer) : Option (List PortEvent) := (nextOf a).map (·.outputs)

/-! ### Single steps (expected values from spec/95_test_vectors.md) -/

/-- Section 3.1. -/
theorem test_nop : shown (exec .nop State.reset) = some [.response .ok 0] := by decide
/-- Program P4, 97 to 99. -/
theorem test_reset :
    (nextOf (exec .reset { marked (enabled t1) true with diag := ⟨2, .tie⟩ })).map
      (fun t => (t.en, t.cfg.chid, t.rx.markSeen, t.diag.errCnt)) = some (false, 0, false, 0) := by
  decide
/-- 40_control.md R102, its example. -/
theorem test_cfgw : (nextOf (exec (.cfgw 12 900) State.reset)).map (·.cfg.idle) = some 900 := by
  decide
/-- Section 3.1, enabled(T1). -/
theorem test_cfgw_locked :
    shown (exec (.cfgw 12 1000) (enabled t1)) = some [.response .locked 0] := by decide
/-- Section 3.1, enabled(T1). -/
theorem test_cfgr :
    shown (exec (.cfgr 12) (enabled t1)) = some [.response .ok 0x384] := by decide
/-- Section 3.1. -/
theorem test_enable_bad : shown (exec .enable State.reset) = some [.response .badProfile 0] := by
  decide
/-- Section 3.1, `IDLE` = 700 is allowed. -/
theorem test_enable :
    (nextOf (exec .enable { State.reset with cfg := t1.set 12 700 })).map (·.en) = some true := by
  decide
/-- Section 3.1, `DISABLE` in mid-flight: no frame event, the diagnostics and `TXBUF` kept. -/
theorem test_disable :
    (nextOf (exec .disable { synced t2 5 0 0 false with diag := ⟨3, .tie⟩, txBuf := [(0, 5)] })).map
      (fun t => (t.en, t.rx.len, t.diag.errCnt, t.outputs)) =
        some (false, 0, 3, [.response .ok 0]) := by decide
/-- Section 3.2, `d` = 500: both ends of both windows. -/
theorem test_feed_mark :
    (nextOf (exec (.feed .mark 500) (enabled t1))).map (fun t => (t.rx.zv, t.rx.ov)) =
      some (true, true) := by decide
/-- Section 3.4, `FEED 0, 900` from S. -/
theorem test_feed_idle :
    shown (exec (.feed .space 900) (synced t1 0xA5 0 0 false)) =
      some [.frame 0x66 1 [0xA5], .response .ok 0] := by decide
/-- Section 3.8, sample 6 of the first table. -/
theorem test_sample_edge :
    (nextOf (exec (.sample 0x00) { enabled t2 with sa := ⟨true, .mark, 3⟩ })).map
      (fun t => (t.sa, t.rx.markSeen, t.rx.ov, t.rx.zv)) =
        some (⟨true, .space, 1⟩, true, false, true) := by decide
/-- Section 3.8, the idle timeout: line 2. -/
theorem test_sample_timeout :
    (nextOf (exec (.sample 0x00) (sampling .space 49))).map (fun t => (t.sa.run, t.outputs)) =
      some (50, [.frame 0x65 1 [9], .response .ok 0]) := by decide
/-- Section 3.1. -/
theorem test_txload : (nextOf (exec (.txload 31 0xAA) State.reset)).map (·.txBuf) =
    some [(31, 0xAA)] := by decide
/-- Section 3.1. -/
theorem test_txload_range :
    shown (exec (.txload 32 0xAA) State.reset) = some [.response .badRange 0] := by decide
/-- Program P1, 23. -/
theorem test_txstart : (nextOf (exec (.txstart 2) (enabled t2))).map (·.tx) =
    some ⟨.sync, 0, 0, false, 2⟩ := by decide
/-- Section 3.1: range before `NOT_ENABLED`. -/
theorem test_txstart_range :
    shown (exec (.txstart 33) State.reset) = some [.response .badRange 0] := by decide
/-- Program P1, 34: the first bit of 0x0E, least significant first. -/
theorem test_txstep_data :
    (nextOf (exec .txstep (sending t2 ⟨.data, 1, 0, false, 2⟩))).map (fun t => (t.tx, t.outputs)) =
      some (⟨.data, 1, 1, false, 2⟩, [.response .ok 0x00050005]) := by decide
/-- Program P1, 31: the Odd check bit of 0x05. -/
theorem test_txstep_check :
    (nextOf (exec .txstep (sending t2 ⟨.data, 0, 4, false, 2⟩))).map (fun t => (t.tx, t.outputs)) =
      some (⟨.data, 1, 0, false, 2⟩, [.response .ok 0x000A000A]) := by decide
/-- 10_state.md R48, index 7. -/
theorem test_strd_votes :
    shown (exec (.strd 7) (marked (enabled t1) true)) = some [.response .ok 6] := by decide
/-- Section 3.1. -/
theorem test_strd_range :
    shown (exec (.strd 17) State.reset) = some [.response .badRange 0] := by decide
/-- The step from reset on a word presented to it (section 3.1). -/
theorem test_step_word :
    shown (step (State.reset.withFetchWord 32 0x801F00AA)) = some [.response .ok 0]
      ∧ shown (step (State.reset.withFetchWord 32 0x00000001)) = some [.response .illegal 0] := by
  decide

/-! ### Witnesses: for each statement with hypotheses, values that meet them -/

/-- An idle-state adapter, an `Unsynced` receiver and an idle transmitter, enabled, meet the invariant. -/
theorem witness_Inv_enabled : Inv (enabled t2) :=
  ⟨by decide, by decide, by decide, by decide, fun _ => ⟨by decide, by decide, by decide, by decide⟩,
    by decide⟩

/-- So does a receiver in the middle of a byte. -/
theorem witness_Inv_synced : Inv (synced t2 9 0 0 false) :=
  ⟨by decide, by decide, by decide, by decide, fun _ => ⟨by decide, by decide, by decide, by decide⟩,
    by decide⟩

theorem witness_EncodeOfDecodedIsTheWord : decode 0x80030012#32 = .ok (.txload 3 0x12) := rfl

theorem witness_StepRunsTheDecodedCommand :
    ({ State.reset with inputs := [.command 0x40000000#32] } : State).inputs
        = .command 0x40000000#32 :: [] ∧ decode 0x40000000#32 = .ok .enable := ⟨rfl, rfl⟩

theorem witness_NothingHappensBetweenCommands : State.reset.inputs = [] := rfl

theorem witness_ReservedOpcodeAnswersIllegal :
    ({ State.reset with inputs := [.command 0xC0000000#32] } : State).inputs
        = .command 0xC0000000#32 :: [] ∧ 0xC ≤ (0xC0000000#32).toNat / 2 ^ 28 := by decide

theorem witness_ReservedBitAnswersIllegal :
    ({ State.reset with inputs := [.command 0xB0000001#32] } : State).inputs
        = .command 0xB0000001#32 :: []
      ∧ (0xB0000001#32).toNat / 2 ^ 28 ≤ 0xB
      ∧ 0xB0000001#32 &&& reservedBits ((0xB0000001#32).toNat / 2 ^ 28) ≠ 0 := by decide

theorem witness_AfterResetInert :
    (32#8).toNat ≤ 32 ∧ (Instr.txload 31 0).WellFormed ∧ (Instr.cfgw 18 7).WellFormed
      ∧ (Instr.strd 16).WellFormed ∧ (Instr.cfgr 18).WellFormed := by decide

theorem witness_CfgwWritesOneRegister :
    19 ≤ (19#5).toNat ∧ ((18#5).toNat < 19 ∧ (enabled t2).en = true)
      ∧ ((18#5).toNat < 19 ∧ State.reset.en = false) := by decide

theorem witness_CfgrReadsOneRegister :
    19 ≤ (19#5).toNat ∧ (18 : Fin 19).val = (18#5).toNat ∧ (0 : Fin 19).val = (0#5).toNat := by decide

theorem witness_EnableChecksTheProfile :
    (enabled t2).en = true ∧ (State.reset.en = false ∧ ¬ LegalProfile State.reset.cfg)
      ∧ (({ State.reset with cfg := t2 } : State).en = false
        ∧ LegalProfile ({ State.reset with cfg := t2 } : State).cfg) := by decide

theorem witness_DisableTearsDown : State.reset.en = false ∧ (enabled t2).en = true := by decide

theorem witness_StrdReadsTheStatusMap :
    17 ≤ (17#5).toNat ∧ ((0#5).toNat, 1) ∈ statTable (enabled t2)
      ∧ ((16#5).toNat, 49) ∈ statTable (sampling .space 49) := by decide

theorem witness_SessionCommandsRefusedByState :
    (State.reset.en = false ∧ (32#8).toNat ≤ 32)
      ∧ ((sending t2 ⟨.done, 2, 0, false, 2⟩).tx.state ≠ .idle ∧ (31#8).toNat ≤ 31
        ∧ (32#8).toNat ≤ 32 ∧ (sending t2 ⟨.done, 2, 0, false, 2⟩).en = true) := by decide

theorem witness_RefusedCommandChangesNothing :
    exec .disable State.reset = .next (answered .notEnabled 0 State.reset)
      ∧ (answered .notEnabled 0 State.reset).outputs.getLast? = some (.response .notEnabled 0)
      ∧ Status.notEnabled ≠ .ok := ⟨rfl, by decide, by decide⟩

theorem witness_OneResponseAtMostOneFrame :
    ∃ t, exec (.feed .space 50) (synced t2 9 0 0 false) = .next t
      ∧ t.outputs = [.frame 0x65 1 [9], .response .ok 0] := ⟨_, rfl, by decide⟩

theorem witness_OutputsAndInputsDoNotMatter :
    ∃ t, exec (.sample 0) (sampling .space 49) = .next t := ⟨_, rfl⟩

theorem witness_ProfileAndPayloadAreStableInUse :
    (∃ t, exec .txstep (sending t2 ⟨.data, 1, 0, false, 2⟩) = .next t) ∧ Instr.txstep ≠ .reset
      ∧ (sending t2 ⟨.data, 1, 0, false, 2⟩).en = true
      ∧ (sending t2 ⟨.data, 1, 0, false, 2⟩).tx.state ≠ .idle :=
  ⟨⟨_, rfl⟩, by decide, by decide, by decide⟩

theorem witness_StateRegistersMoveOnlyByTheTable :
    (∃ t, exec (.feed .space 50) (synced t2 9 0 0 false) = .next t
        ∧ t.rx.state ≠ (synced t2 9 0 0 false).rx.state)
      ∧ ∃ t, exec .txstep (sending t2 ⟨.done, 2, 0, false, 2⟩) = .next t
        ∧ t.tx.state ≠ (sending t2 ⟨.done, 2, 0, false, 2⟩).tx.state :=
  ⟨⟨_, rfl, by decide⟩, ⟨_, rfl, by decide⟩⟩

theorem witness_OneFramingErrorPerCommand :
    (∃ t, exec (.feed .space 100) (marked (enabled t1) true) = .next t
        ∧ t.diag = ⟨1, .syncFail⟩) ∧ Instr.feed .space 100 ≠ .reset :=
  ⟨⟨_, rfl, by decide⟩, by decide⟩

theorem witness_WindowsAreClosedIntervals : (500#16).toNat < (600#16).toNat := by decide

theorem witness_MarkEventStoresItsVotes : (enabled t1).en = true := by decide

theorem witness_RxResetFlushesRecordsClears : (synced t1 0xA5 0 0 false).rx.len.toNat ≤ 32
    ∧ ({ RxSession.initial with len := 32 } : RxSession).len.toNat ≤ 32 := by decide

theorem witness_IdleSpaceEndsTheFrame :
    (synced t1 0xA5 0 0 false).en = true ∧ (synced t1 0xA5 0 0 false).cfg[12] ≤ 900#16
      ∧ (synced t1 0xA5 0 0 false).rx.len.toNat ≤ 32 := by decide

theorem witness_LoneSpaceIsIgnored :
    (synced t1 0xA5 0 0 false).en = true ∧ 899#16 < (synced t1 0xA5 0 0 false).cfg[12]
      ∧ (synced t1 0xA5 0 0 false).rx.markSeen = false := by decide

/-- 95_test_vectors.md section 3.3, 400/600. -/
theorem witness_TiedVotesReset :
    EndsPeriod (marked (enabled t1) false) 600
      ∧ zVotes (marked (enabled t1) false) 600 = oVotes (marked (enabled t1) false) 600
      ∧ (marked (enabled t1) false).rx.len.toNat ≤ 32 := by decide

theorem witness_SyncZeroBitCounts :
    Decodes (marked (enabled t1) false) 400 false
      ∧ (marked (enabled t1) false).rx.state ≠ .synced := by decide

/-- Six zero bits counted, and none. -/
theorem witness_SyncOneBitSynchronisesOrFails :
    (let s := marked { enabled t1 with rx := { RxSession.initial with
        state := .syncing, syncCnt := 6 } } true; Decodes s 600 true ∧ s.rx.state ≠ .synced ∧ s.cfg[16].toNat ≤ s.rx.syncCnt.toNat)
    ∧ (let s := marked (enabled t1) true; Decodes s 600 true ∧ s.rx.state ≠ .synced ∧ s.rx.syncCnt.toNat < s.cfg[16].toNat
        ∧ s.rx.len.toNat ≤ 32) := by decide

theorem witness_DataBitIsShiftedIn :
    let s := marked (synced t1 0xA5 7 0x40 true) true
    Decodes s 600 true ∧ s.rx.state = .synced ∧ s.rx.bitCnt.toNat < s.cfg[13].toNat
      ∧ ¬ (s.rx.bitCnt.toNat + 1 = s.cfg[13].toNat ∧ s.cfg[14] = 0) := by decide

/-- A check bit that passes, with room left; the last data bit of the last byte, without parity. -/
theorem witness_CompletedByteIsAppended :
    (let s := marked (synced t1 0xA5 8 0x8C true) true; CompletesByte s 600 true 0x8C ∧ s.rx.len.toNat < 32
        ∧ s.rx.len.toNat + 1 ≠ s.cfg[17].toNat)
    ∧ (let s := marked (synced ((t2.set 14 0).set 17 2) 9 3 0x05 false) true; CompletesByte s 10 true 0x0D ∧ s.rx.len.toNat < 32
        ∧ s.rx.len.toNat + 1 = s.cfg[17].toNat) := by decide

theorem witness_FailedCheckBitResets :
    let s := marked (synced t1 0x8C 8 0x8D false) true
    Decodes s 600 true ∧ s.rx.state = .synced ∧ s.rx.bitCnt.toNat = s.cfg[13].toNat
      ∧ 1 ≤ s.cfg[14].toNat ∧ s.cfg[14].toNat ≤ 4 ∧ ¬ Passes s.cfg[14] s.rx.par true
      ∧ s.rx.len.toNat ≤ 32 := by decide

theorem witness_ReceiveCommandsTouchOnlyReceive :
    (∃ t, exec (.feed .mark 5) (enabled t2) = .next t)
      ∧ ∃ t, exec (.sample 0) (sampling .mark 3) = .next t := ⟨⟨_, rfl⟩, ⟨_, rfl⟩⟩

theorem witness_FrameEventsAreSound :
    Inv (synced t2 9 0 0 false)
      ∧ ∃ t, exec (.feed .space 50) (synced t2 9 0 0 false) = .next t
        ∧ PortEvent.frame 0x65 1 [9] ∈ t.outputs.drop (synced t2 9 0 0 false).outputs.length :=
  ⟨witness_Inv_synced, _, rfl, by decide⟩

theorem witness_FirstSampleStartsARun :
    (enabled t2).en = true ∧ (enabled t2).sa.valid = false := by decide

theorem witness_SampleLevelIsTheHighBit : (0x80#8).getLsbD 7 = (0xFF#8).getLsbD 7 := by decide

/-- A saturated mark run (95_test_vectors.md section 3.8). -/
theorem witness_SameLevelSampleGrowsTheRun :
    let s := sampling .mark 65535
    s.en = true ∧ s.sa.valid = true ∧ s.sa.level = shownLevel 0x80
      ∧ ¬ (s.sa.level = .space ∧ s.sa.run < s.cfg[12] ∧ s.cfg[12] ≤ plusOneSat s.sa.run) := by decide

theorem witness_SpaceRunTimesOutAtIdle :
    let s := sampling .space 49
    s.en = true ∧ s.sa.valid = true ∧ s.sa.level = .space ∧ shownLevel 0x7F = .space
      ∧ s.sa.run < s.cfg[12] ∧ s.cfg[12] ≤ plusOneSat s.sa.run ∧ s.rx.len.toNat ≤ 32 := by decide

theorem witness_TransitionReportsTheRun :
    let s := sampling .mark 3
    s.en = true ∧ s.sa.valid = true ∧ s.sa.level ≠ shownLevel 0x00
      ∧ ∃ t, exec (.feed s.sa.level s.sa.run) s = .next t := ⟨by decide, by decide, by decide, _, rfl⟩

theorem witness_TxloadWritesOneByte :
    32 ≤ (32#8).toNat ∧ ((31#8).toNat < 32 ∧ (sending t2 ⟨.done, 2, 0, false, 2⟩).tx.state ≠ .idle)
      ∧ ((31#8).toNat < 32 ∧ State.reset.tx.state = .idle) := by decide

theorem witness_TxstartStartsASend :
    33 ≤ (33#8).toNat ∧ ((32#8).toNat ≤ 32 ∧ State.reset.en = false)
      ∧ ((32#8).toNat ≤ 32 ∧ (sending t2 ⟨.sync, 0, 0, false, 1⟩).en = true
        ∧ (sending t2 ⟨.sync, 0, 0, false, 1⟩).tx.state ≠ .idle)
      ∧ ((0#8).toNat ≤ 32 ∧ (enabled t2).en = true ∧ (enabled t2).tx.state = .idle) := by decide

theorem witness_TxstepInIdle : State.reset.tx.state = .idle := by decide

theorem witness_TxstepInSync :
    ((sending t2 ⟨.sync, 0, 1, false, 2⟩).tx.state = .sync
        ∧ (sending t2 ⟨.sync, 0, 1, false, 2⟩).tx.bitIdx.toNat < t2[16].toNat)
      ∧ ((sending t2 ⟨.sync, 0, 2, false, 2⟩).tx.state = .sync
        ∧ t2[16].toNat ≤ (sending t2 ⟨.sync, 0, 2, false, 2⟩).tx.bitIdx.toNat) := by decide

theorem witness_TxstepEndMarker :
    (sending t2 ⟨.data, 2, 0, false, 2⟩).tx.state = .data
      ∧ (sending t2 ⟨.data, 2, 0, false, 2⟩).tx.byteIdx
        = (sending t2 ⟨.data, 2, 0, false, 2⟩).tx.len := by decide

theorem witness_TxstepDataBit :
    let s := sending t2 ⟨.data, 1, 3, false, 2⟩
    s.tx.state = .data ∧ s.tx.byteIdx < s.tx.len ∧ s.tx.byteIdx.toNat < 32 ∧ s.cfg[13].toNat ≤ 8
      ∧ s.tx.bitIdx.toNat < s.cfg[13].toNat
      ∧ true = airBit s.cfg (s.byteAt .txBuf s.tx.byteIdx.toNat) s.tx.bitIdx.toNat := by decide

theorem witness_TxstepCheckBit :
    let s := sending t2 ⟨.data, 1, 4, true, 2⟩
    s.tx.state = .data ∧ s.tx.byteIdx < s.tx.len ∧ s.tx.bitIdx.toNat = s.cfg[13].toNat
      ∧ 1 ≤ s.cfg[14].toNat ∧ s.cfg[14].toNat ≤ 4 := by decide

theorem witness_TxstepInDone : (sending t2 ⟨.done, 2, 0, false, 2⟩).tx.state = .done := by decide

theorem witness_ZeroMarkIsTheIdleMarker :
    Inv (enabled t2) ∧ (enabled t2).en = true ∧ ∃ t, exec .txstep (enabled t2) = .next t :=
  ⟨witness_Inv_enabled, by decide, _, rfl⟩

theorem witness_CheckBitSentIsTheOneAccepted : 1 ≤ (4#16).toNat ∧ (4#16).toNat ≤ 4 := by decide

theorem witness_BitOrderOfSendMirrorsReceive :
    1 ≤ t1[13].toNat ∧ t1[13].toNat ≤ 8 ∧ (0xB1#8).toNat < 2 ^ t1[13].toNat := by decide

theorem witness_FeedAndTxstepCommute :
    ∃ a b c e, exec (.feed .space 50) (synced t2 9 0 0 false) = .next a ∧ exec .txstep a = .next b
      ∧ exec .txstep (synced t2 9 0 0 false) = .next c ∧ exec (.feed .space 50) c = .next e :=
  ⟨_, _, _, _, rfl, rfl, rfl, rfl⟩

theorem witness_StepKeepsTheInvariant :
    Inv (synced t2 9 0 0 false) ∧ ∃ t, step (synced t2 9 0 0 false) = .next t :=
  ⟨witness_Inv_synced, _, rfl⟩

theorem witness_NoStepStops : Inv (synced t2 9 0 0 false) := witness_Inv_synced

theorem witness_SendAnswersThePairSequence :
    let s := { enabled t2 with txBuf := [(0, 5), (1, 14)] }
    Inv s ∧ s.en = true ∧ s.tx.state = .idle ∧ [5#8, 14#8].length = (2#8).toNat
      ∧ (2#8).toNat ≤ 32 ∧ s.bytesUpTo .txBuf (2#8).toNat = [5#8, 14#8] :=
  ⟨⟨by decide, by decide, by decide, by decide, fun _ => ⟨by decide, by decide, by decide, by decide⟩,
    by decide⟩, by decide, by decide, by decide, by decide, by decide⟩

theorem witness_ReceiverRecoversTheSentPayload :
    Inv (enabled t2) ∧ (enabled t2).en = true ∧ (enabled t2).rx.state = .unsynced
      ∧ WindowsSeparate (enabled t2).cfg
      ∧ (enabled t2).cfg[9] < (enabled t2).cfg[12] ∧ (enabled t2).cfg[11] < (enabled t2).cfg[12]
      ∧ ¬ ((enabled t2).cfg[13] = 1 ∧ (enabled t2).cfg[14] = 0)
      ∧ 1 ≤ [5#8, 14#8, 1#8, 2#8].length ∧ [5#8, 14#8, 1#8, 2#8].length ≤ (enabled t2).cfg[17].toNat
      ∧ ∀ v ∈ [5#8, 14#8, 1#8, 2#8], v.toNat < 2 ^ (enabled t2).cfg[13].toNat :=
  ⟨witness_Inv_enabled, by decide, by decide, by decide, by decide, by decide, by decide, by decide,
    by decide, by decide⟩

theorem witness_RoundTripAsWorded :
    Inv (enabled t2) ∧ (enabled t2).en = true ∧ (enabled t2).rx.state = .unsynced
      ∧ WindowsSeparate (enabled t2).cfg ∧ 1 ≤ [5#8].length
      ∧ [5#8].length ≤ (enabled t2).cfg[17].toNat
      ∧ ∀ v ∈ [5#8], v.toNat < 2 ^ (enabled t2).cfg[13].toNat :=
  ⟨witness_Inv_enabled, by decide, by decide, by decide, by decide, by decide, by decide⟩

end Sys2Proof.Tests
end

section
/-! SUPPORT. Progress (spec/00_scope.md R12, spec/60_exceptions.md R180): under the part of the invariant that
the receive and transmit state machines rely on, no operation runs into one of the faults of log 6, so every
command answers. -/

namespace Sys2Proof.Machine

/-! ### Answering -/

theorem respond_answers (st : Status) (rd : Word) (s : State) : ∃ t, respond st rd s = .next t :=
  ⟨_, rfl⟩

theorem refuse_answers (st : Status) (s : State) : ∃ t, refuse st s = .next t :=
  respond_answers st 0 s

/-- An operation that ends well is answered. -/
theorem complete_answers {r : Except Fault State} (h : ∃ s, r = .ok s) :
    ∃ t, complete r = .next t := by
  obtain ⟨s, rfl⟩ := h
  exact respond_answers .ok 0 s

/-! ### Check bits (spec/41_receive.md R132, spec/43_transmit.md R171) -/

/-- The receiver judges a check bit under every parity mode that has one. -/
theorem checkOk_defined {mode : Duration} (p b : Bool) (h1 : 1 ≤ mode.toNat) (h4 : mode.toNat ≤ 4) :
    ∃ v, checkOk mode p b = some v := by
  unfold checkOk
  generalize mode.toNat = n at h1 h4
  interval_cases n <;> exact ⟨_, rfl⟩

/-- The sender has a check bit under every parity mode that has one. -/
theorem checkBit_defined {mode : Duration} (p : Bool) (h1 : 1 ≤ mode.toNat) (h4 : mode.toNat ≤ 4) :
    ∃ b, checkBit mode p = some b := by
  unfold checkBit
  generalize mode.toNat = n at h1 h4
  interval_cases n <;> exact ⟨_, rfl⟩

/-- A legal parity code that is not None is one of the four that have a check bit. -/
theorem parity_pos_of_ne_zero {mode : Duration} (h : mode ≠ 0) : 1 ≤ mode.toNat := by
  bv_omega

/-! ### The receive session -/

/-- What the receive operations rely on: room for one more byte in `FRAMEBUF`, a bit count that stays within
its byte, and a check bit only due under a mode that has one (spec/41_receive.md R138). -/
structure RxReady (pf : Profile) (r : RxSession) : Prop where
  len_lt : r.len.toNat < 32
  bitCnt_le : r.bitCnt.toNat ≤ pf.bits.toNat
  parity_pos : r.bitCnt.toNat = pf.bits.toNat → 1 ≤ pf.parity.toNat
  parity_le : pf.parity.toNat ≤ 4

/-- An enabled state of the invariant is ready to receive. -/
theorem rxReady_of_inv {pf : Profile} {r : RxSession} {fb : Memory} (hpf : LegalProfile pf)
    (hr : RxInv pf r fb) : RxReady pf r := by
  obtain ⟨-, hparity, -, -, ⟨-, hmax⟩, -⟩ := hpf
  obtain ⟨-, -, -, -, hbit, hdue, hlen, -⟩ := hr
  exact ⟨by omega, hbit, fun h => parity_pos_of_ne_zero (hdue h), hparity⟩

/-- Consuming the votes leaves the session ready: the votes are no part of it. -/
theorem rxReady_clearVotes {s : State} (h : RxReady s.cfg s.rx) :
    RxReady (clearVotes s).cfg (clearVotes s).rx :=
  ⟨h.len_lt, h.bitCnt_le, h.parity_pos, h.parity_le⟩

theorem rxReset_succeeds (c : ResetCause) {s : State} (h : s.rx.len.toNat ≤ 32) :
    ∃ t, rxReset c s = .ok t :=
  ⟨_, rxReset_eq c s h⟩

/-- With room for one more byte the byte is stored; the reset of a full frame then flushes at most 32. -/
theorem rxByteDone_succeeds {s : State} (h : s.rx.len.toNat < 32) : ∃ t, rxByteDone s = .ok t := by
  unfold rxByteDone
  rw [memWrite_eq (sp := .frameBuf) s.rx.acc s h]
  dsimp only
  split
  · have hlen : (s.rx.len + 1).toNat ≤ 32 := by bv_omega
    exact rxReset_succeeds .overflow (by simpa using hlen)
  · exact ⟨_, rfl⟩

theorem rxSyncBit_succeeds (b : Bool) {s : State} (h : s.rx.len.toNat ≤ 32) :
    ∃ t, rxSyncBit b s = .ok t := by
  unfold rxSyncBit
  split
  · split
    · exact ⟨_, rfl⟩
    · exact rxReset_succeeds .syncFail h
  · exact ⟨_, rfl⟩

theorem rxShiftBit_succeeds (b : Bool) {s : State} (h : s.rx.len.toNat < 32) :
    ∃ t, rxShiftBit b s = .ok t := by
  unfold rxShiftBit
  dsimp only
  split
  · exact rxByteDone_succeeds h
  · exact ⟨_, rfl⟩

theorem rxCheckBit_succeeds (b : Bool) {s : State} (h : s.rx.len.toNat < 32)
    (h1 : 1 ≤ s.cfg.parity.toNat) (h4 : s.cfg.parity.toNat ≤ 4) : ∃ t, rxCheckBit b s = .ok t := by
  obtain ⟨v, hv⟩ := checkOk_defined s.rx.par b h1 h4
  unfold rxCheckBit
  rw [hv]
  cases v with
  | true => exact rxByteDone_succeeds h
  | false => exact rxReset_succeeds .parityErr h.le

theorem rxDataBit_succeeds (b : Bool) {s : State} (h : RxReady s.cfg s.rx) :
    ∃ t, rxDataBit b s = .ok t := by
  unfold rxDataBit
  split
  · exact rxShiftBit_succeeds b h.len_lt
  · next hnot =>
    have hdue : s.rx.bitCnt.toNat = s.cfg.bits.toNat := by have := h.bitCnt_le; omega
    rw [if_pos hdue]
    exact rxCheckBit_succeeds b h.len_lt (h.parity_pos hdue) h.parity_le

theorem rxBit_succeeds (b : Bool) {s : State} (h : RxReady s.cfg s.rx) : ∃ t, rxBit b s = .ok t := by
  unfold rxBit
  split
  · exact rxDataBit_succeeds b h
  · exact rxSyncBit_succeeds b h.len_lt.le

theorem rxSpace_succeeds (d : Duration) {s : State} (h : RxReady s.cfg s.rx) :
    ∃ t, rxSpace d s = .ok t := by
  have hclear := rxReady_clearVotes h
  unfold rxSpace
  split
  · split
    · exact rxReset_succeeds .tie hclear.len_lt.le
    · exact rxBit_succeeds _ hclear
  · exact ⟨_, rfl⟩

theorem rxFeed_succeeds (d : Duration) (l : Level) {s : State} (h : RxReady s.cfg s.rx) :
    ∃ t, rxFeed d l s = .ok t := by
  cases l with
  | mark => exact ⟨_, rfl⟩
  | space =>
    simp only [rxFeed]
    split
    · exact rxReset_succeeds .eof h.len_lt.le
    · exact rxSpace_succeeds d h

/-- The adapter only adds runs: its own fields are no part of what receiving relies on. -/
theorem saSample_succeeds (timeout : Bool) (l : Level) {s : State} (h : RxReady s.cfg s.rx) :
    ∃ t, saSample timeout l s = .ok t := by
  unfold saSample
  split
  · split
    · unfold saSame
      dsimp only
      split
      · exact rxFeed_succeeds _ .space h
      · exact ⟨_, rfl⟩
    · obtain ⟨s1, hs1⟩ := rxFeed_succeeds s.sa.run s.sa.level h
      simp only [saEdge, hs1]
      exact ⟨_, rfl⟩
  · exact ⟨_, rfl⟩

/-! ### The transmit session -/

/-- What a step in `Data` relies on: both indices within the payload and the byte, and a check bit only due
under a mode that has one (spec/43_transmit.md R165 to R167). -/
structure TxReady (pf : Profile) (t : TxSession) : Prop where
  byteIdx_le : t.byteIdx.toNat ≤ t.len.toNat
  len_le : t.len.toNat ≤ 32
  bitIdx_le : t.bitIdx.toNat ≤ pf.bits.toNat
  parity_pos : t.bitIdx.toNat = pf.bits.toNat → 1 ≤ pf.parity.toNat
  parity_le : pf.parity.toNat ≤ 4

/-- An enabled state of the invariant that is sending data is ready for the next step. -/
theorem txReady_of_inv {pf : Profile} {t : TxSession} (hpf : LegalProfile pf) (ht : TxInv pf t)
    (hdata : t.state = .data) : TxReady pf t := by
  obtain ⟨-, hparity, -⟩ := hpf
  obtain ⟨-, -, hinData, -, hbyte, hlen⟩ := ht
  obtain ⟨hbit, hdue, -⟩ := hinData hdata
  exact ⟨hbyte, hlen, hbit, fun h => parity_pos_of_ne_zero (hdue h), hparity⟩

theorem txDataBit_succeeds {s : State} (h : s.tx.byteIdx.toNat < 32) : ∃ r, txDataBit s = .ok r := by
  unfold txDataBit
  rw [memRead_eq (sp := .txBuf) s h]
  exact ⟨_, rfl⟩

theorem txCheckBit_succeeds {s : State} (h1 : 1 ≤ s.cfg.parity.toNat) (h4 : s.cfg.parity.toNat ≤ 4) :
    ∃ r, txCheckBit s = .ok r := by
  obtain ⟨b, hb⟩ := checkBit_defined s.tx.par h1 h4
  unfold txCheckBit
  rw [hb]
  exact ⟨_, rfl⟩

theorem txData_succeeds {s : State} (h : TxReady s.cfg s.tx) : ∃ r, txData s = .ok r := by
  obtain ⟨hbyte, hlen, hbit, hpos, hle⟩ := h
  unfold txData
  split
  · exact ⟨_, rfl⟩
  · next hne =>
    rw [if_neg (by bv_omega)]
    split
    · exact txDataBit_succeeds (by bv_omega)
    · next hnot =>
      have hdue : s.tx.bitIdx.toNat = s.cfg.bits.toNat := by omega
      rw [if_pos hdue]
      exact txCheckBit_succeeds (hpos hdue) hle

/-- Only `Data` has steps without a rule. -/
theorem txStep_succeeds {s : State} (h : s.tx.state = .data → TxReady s.cfg s.tx) :
    ∃ r, txStep s = .ok r := by
  unfold txStep
  split
  · exact ⟨_, rfl⟩
  · exact ⟨_, rfl⟩
  · next hdata => exact txData_succeeds (h hdata)
  · exact ⟨_, rfl⟩

/-! ### The commands -/

theorem execCfgw_answers (idx : BitVec 5) (val : Duration) (s : State) :
    ∃ t, execCfgw idx val s = .next t := by
  unfold execCfgw
  split
  · exact refuse_answers .badRange s
  · split
    · exact refuse_answers .locked s
    · exact respond_answers ..

theorem execCfgr_answers (idx : BitVec 5) (s : State) : ∃ t, execCfgr idx s = .next t := by
  unfold execCfgr
  split
  · exact refuse_answers .badRange s
  · exact respond_answers ..

theorem execEnable_answers (s : State) : ∃ t, execEnable s = .next t := by
  unfold execEnable
  split
  · exact refuse_answers .locked s
  · split
    · exact respond_answers ..
    · exact refuse_answers .badProfile s

theorem execDisable_answers (s : State) : ∃ t, execDisable s = .next t := by
  unfold execDisable
  split
  · exact respond_answers ..
  · exact refuse_answers .notEnabled s

theorem execStrd_answers (idx : BitVec 5) (s : State) : ∃ t, execStrd idx s = .next t := by
  unfold execStrd
  split
  · exact refuse_answers .badRange s
  · exact respond_answers ..

theorem execFeed_answers (l : Level) (d : Duration) {s : State}
    (h : s.en = true → RxReady s.cfg s.rx) : ∃ t, execFeed l d s = .next t := by
  unfold execFeed
  split
  · next hen => exact complete_answers (rxFeed_succeeds d l (h hen))
  · exact refuse_answers .notEnabled s

theorem sampleWith_answers (timeout : Bool) (smp : Byte) {s : State}
    (h : s.en = true → RxReady s.cfg s.rx) : ∃ t, sampleWith timeout smp s = .next t := by
  unfold sampleWith
  split
  · next hen => exact complete_answers (saSample_succeeds timeout _ (h hen))
  · exact refuse_answers .notEnabled s

/-- The range check of `TXLOAD` is the bound of the memory it writes. -/
theorem execTxload_answers (addr : BitVec 8) (data : Byte) (s : State) :
    ∃ t, execTxload addr data s = .next t := by
  unfold execTxload
  split
  · next haddr =>
    split
    · exact complete_answers ⟨_, memWrite_eq data s (of_decide_eq_true haddr)⟩
    · exact refuse_answers .txBusy s
  · exact refuse_answers .badRange s

theorem execTxstart_answers (len : BitVec 8) (s : State) : ∃ t, execTxstart len s = .next t := by
  unfold execTxstart
  split
  · split
    · split
      · exact respond_answers ..
      · exact refuse_answers .txBusy s
    · exact refuse_answers .notEnabled s
  · exact refuse_answers .badRange s

theorem execTxstep_answers {s : State} (h : s.tx.state = .data → TxReady s.cfg s.tx) :
    ∃ t, execTxstep s = .next t := by
  obtain ⟨⟨p, s1⟩, hstep⟩ := txStep_succeeds h
  simp only [execTxstep, hstep]
  exact respond_answers ..

/-! ### States of the invariant -/

theorem Inv.rxReady {s : State} (h : Inv s) (hen : s.en = true) : RxReady s.cfg s.rx := by
  obtain ⟨-, -, -, -, henabled, -⟩ := h
  obtain ⟨hpf, hrx, -⟩ := henabled hen
  exact rxReady_of_inv hpf hrx

/-- Data is only sent while enabled: disabled, the transmit session is idle. -/
theorem Inv.txReady {s : State} (h : Inv s) (hdata : s.tx.state = .data) : TxReady s.cfg s.tx := by
  obtain ⟨-, -, -, -, henabled, hdisabled⟩ := h
  cases hen : s.en with
  | true =>
    obtain ⟨hpf, -, htx, -⟩ := henabled hen
    exact txReady_of_inv hpf htx hdata
  | false =>
    obtain ⟨-, htx, -⟩ := hdisabled hen
    rw [htx] at hdata
    cases hdata

/-- From a state of the invariant every command answers. -/
theorem exec_answers (i : Instr) {s : State} (h : Inv s) : ∃ t, exec i s = .next t := by
  cases i with
  | nop => exact respond_answers .ok 0 s
  | reset => exact respond_answers .ok 0 (resetAll s)
  | cfgw idx val => exact execCfgw_answers idx val s
  | cfgr idx => exact execCfgr_answers idx s
  | enable => exact execEnable_answers s
  | disable => exact execDisable_answers s
  | feed l d => exact execFeed_answers l d h.rxReady
  | sample smp => exact sampleWith_answers Config.saIdleTimeout smp h.rxReady
  | txload addr data => exact execTxload_answers addr data s
  | txstart len => exact execTxstart_answers len s
  | txstep => exact execTxstep_answers h.txReady
  | strd idx => exact execStrd_answers idx s

/-- What the host is still to present is no part of the invariant. -/
theorem inv_of_nextInput {s s1 : State} {i : PortInput} (h : Inv s)
    (hnext : nextInput s = some (i, s1)) : Inv s1 := by
  obtain ⟨rest, -, rfl⟩ := nextInput_some hnext
  exact h

/-- Settles O57, by what the host presents: nothing, hardware reset, a command, an illegal word. -/
theorem noStepStops : Obligations.NoStepStops := by
  intro s hinv
  unfold step
  split
  · exact ⟨s, rfl⟩
  · exact ⟨_, rfl⟩
  · next hnext =>
    split
    · exact exec_answers _ (inv_of_nextInput hinv hnext)
    · exact refuse_answers .illegal _

end Sys2Proof.Machine
end

section
/-! SUPPORT. Reset and the status map (spec/10_state.md R48, R52, spec/40_control.md R106, R107): what every
element is after reset, that such a state meets the invariant, and what `STRD` reads. -/

namespace Sys2Proof.Machine

/-! ### Reset -/

theorem profileZero_get (i : Fin 19) : Profile.zero[i] = 0 := by
  simp [Profile.zero]

/-- Hardware reset and `RESET` leave every element at its reset value, whatever the state was. -/
theorem resetAll_isResetState (s : State) : IsResetState (resetAll s) :=
  ⟨rfl, profileZero_get, rfl, rfl, rfl, rfl, rfl, rfl⟩

theorem reset_isResetState : IsResetState State.reset :=
  ⟨rfl, profileZero_get, rfl, rfl, rfl, rfl, rfl, rfl⟩

/-- A reset state meets the invariant as soon as the frame events already shown are sound: reset leaves
`outputs` alone, and everything else the invariant speaks of has its reset value. -/
theorem inv_of_isResetState {t : State} (h : IsResetState t)
    (hout : t.outputs.all PortEvent.sound = true) : Inv t := by
  obtain ⟨hen, -, hrx, hdiag, htx, hsa, hfb, htb⟩ := h
  refine ⟨by rw [hfb]; rfl, by rw [htb]; rfl, by simp [hdiag], hout, ?_, fun _ => ⟨hrx, htx, hsa⟩⟩
  intro henabled
  rw [hen] at henabled
  cases henabled

/-- Settles O10: `RESET` is `resetAll` and one response. -/
theorem resetValues : Obligations.ResetValues :=
  ⟨rfl, reset_isResetState, fun s => ⟨_, rfl, resetAll_isResetState s, rfl, rfl⟩⟩

/-- Settles O55: nothing has been shown at reset. -/
theorem invariantAtReset : Obligations.InvariantAtReset :=
  inv_of_isResetState reset_isResetState rfl

/-! ### The status map -/

/-- Format I with its opcode in bits 31:28 and its index in bits 20:16 (spec/30_encoding.md R81). -/
theorem formatC_index (op : BitVec 4) (idx : BitVec 5) :
    formatC op idx 0#16 = op.setWidth 32 <<< 28 ||| idx.setWidth 32 <<< 16 := by
  ext i hi
  grind [formatC]

theorem wordOfBit_eq_ofNat (b : Bool) : wordOfBit b = BitVec.ofNat 32 b.toNat := by
  cases b <;> rfl

theorem zeroExtend_eq_ofNat {n : Nat} (x : BitVec n) : x.setWidth 32 = BitVec.ofNat 32 x.toNat :=
  (BitVec.ofNat_toNat 32 x).symm

/-- Index 7 packs `zv`, `ov` and `mark_seen` from bit 0 up. -/
theorem packedVotes_eq_ofNat (zv ov ms : Bool) :
    (BitVec.ofBool ms ++ BitVec.ofBool ov ++ BitVec.ofBool zv).setWidth 32 =
      BitVec.ofNat 32 (zv.toNat + 2 * ov.toNat + 4 * ms.toNat) := by
  cases zv <;> cases ov <;> cases ms <;> rfl

/-- Index 15 packs `sa_valid` and `sa_level` from bit 0 up. -/
theorem packedAdapter_eq_ofNat (valid level : Bool) :
    (BitVec.ofBool level ++ BitVec.ofBool valid).setWidth 32 =
      BitVec.ofNat 32 (valid.toNat + 2 * level.toNat) := by
  cases valid <;> cases level <;> rfl

/-- The number of a status register in the map (10_state.md R48). -/
def StatReg.index : StatReg → BitVec 5
  | .en => 0
  | .rxState => 1
  | .rxSyncCnt => 2
  | .rxBitcnt => 3
  | .rxAcc => 4
  | .rxPar => 5
  | .rxLen => 6
  | .rxVotes => 7
  | .errcnt => 8
  | .lasterr => 9
  | .txState => 10
  | .txByte => 11
  | .txBit => 12
  | .txPar => 13
  | .txLen => 14
  | .saFlags => 15
  | .saRun => 16

theorem statIndex_index (r : StatReg) : statIndex r.index = some r := by
  cases r <;> rfl

/-- From 17 up no status register is selected. -/
theorem statIndex_reserved {idx : BitVec 5} (h : 17 ≤ idx.toNat) : statIndex idx = none := by
  unfold statIndex
  split
  case h_18 => rfl
  all_goals omega

/-- Every row of the status map is some register's number and value. -/
theorem mem_statTable {s : State} {n v : Nat} (h : (n, v) ∈ statTable s) :
    ∃ r : StatReg, n = r.index.toNat ∧ statValue s r = BitVec.ofNat 32 v := by
  simp only [statTable, List.mem_cons, List.not_mem_nil, or_false, Prod.mk.injEq] at h
  rcases h with h | h | h | h | h | h | h | h | h | h | h | h | h | h | h | h | h <;>
    obtain ⟨rfl, rfl⟩ := h
  · exact ⟨.en, rfl, wordOfBit_eq_ofNat _⟩
  · exact ⟨.rxState, rfl, rfl⟩
  · exact ⟨.rxSyncCnt, rfl, zeroExtend_eq_ofNat _⟩
  · exact ⟨.rxBitcnt, rfl, zeroExtend_eq_ofNat _⟩
  · exact ⟨.rxAcc, rfl, zeroExtend_eq_ofNat _⟩
  · exact ⟨.rxPar, rfl, wordOfBit_eq_ofNat _⟩
  · exact ⟨.rxLen, rfl, zeroExtend_eq_ofNat _⟩
  · exact ⟨.rxVotes, rfl, packedVotes_eq_ofNat _ _ _⟩
  · exact ⟨.errcnt, rfl, zeroExtend_eq_ofNat _⟩
  · exact ⟨.lasterr, rfl, rfl⟩
  · exact ⟨.txState, rfl, rfl⟩
  · exact ⟨.txByte, rfl, zeroExtend_eq_ofNat _⟩
  · exact ⟨.txBit, rfl, zeroExtend_eq_ofNat _⟩
  · exact ⟨.txPar, rfl, wordOfBit_eq_ofNat _⟩
  · exact ⟨.txLen, rfl, zeroExtend_eq_ofNat _⟩
  · exact ⟨.saFlags, rfl, packedAdapter_eq_ofNat _ _⟩
  · exact ⟨.saRun, rfl, zeroExtend_eq_ofNat _⟩

theorem execStrd_of_statIndex {idx : BitVec 5} {r : StatReg} (s : State) (h : statIndex idx = some r) :
    execStrd idx s = respond .ok (statValue s r) s := by
  simp only [execStrd, h]

theorem execStrd_reserved {idx : BitVec 5} (s : State) (h : 17 ≤ idx.toNat) :
    execStrd idx s = refuse .badRange s := by
  simp only [execStrd, statIndex_reserved h]

/-- `STRD` of an index the map lists answers the value beside it. -/
theorem execStrd_of_mem_statTable {s : State} {idx : BitVec 5} {v : Nat}
    (h : (idx.toNat, v) ∈ statTable s) :
    execStrd idx s = respond .ok (BitVec.ofNat 32 v) s := by
  obtain ⟨r, hidx, hval⟩ := mem_statTable h
  rw [BitVec.eq_of_toNat_eq hidx, execStrd_of_statIndex s (statIndex_index r), hval]

/-- Settles O17, by the two cases of `STRD`: an index the map lists and a reserved one. -/
theorem strdReadsTheStatusMap : Obligations.StrdReadsTheStatusMap :=
  ⟨by decide, fun s idx =>
    ⟨formatC_index 0xB#4 idx, execStrd_reserved s, fun _ => execStrd_of_mem_statTable⟩⟩

end Sys2Proof.Machine
end

section
/-! SUPPORT. Neither what the ports have shown nor what the host is still to present is read by any operation
(spec/10_state.md R49, R51): each operation of the model commutes with putting other outputs before those of
the state and other inputs in place of its own. -/

namespace Sys2Proof.Machine

/-- The same hardware with other ports: `p` shown before what `s` has shown, `q` still to be presented. -/
def State.withPorts (p : List PortEvent) (q : List PortInput) (s : State) : State :=
  { s with outputs := p ++ s.outputs, inputs := q }

/-- An answer with its next state, if it has one, taken through `f`. -/
def mapNext (f : State → State) : Answer → Answer
  | .next s => .next (f s)
  | .fault r => .fault r
  | .refused r => .refused r

section
variable (p : List PortEvent) (q : List PortInput) (s : State)

/-! ### What `withPorts` leaves alone -/

@[simp] theorem withPorts_en : (s.withPorts p q).en = s.en := rfl
@[simp] theorem withPorts_cfg : (s.withPorts p q).cfg = s.cfg := rfl
@[simp] theorem withPorts_rx : (s.withPorts p q).rx = s.rx := rfl
@[simp] theorem withPorts_diag : (s.withPorts p q).diag = s.diag := rfl
@[simp] theorem withPorts_tx : (s.withPorts p q).tx = s.tx := rfl
@[simp] theorem withPorts_sa : (s.withPorts p q).sa = s.sa := rfl
@[simp] theorem withPorts_outputs : (s.withPorts p q).outputs = p ++ s.outputs := rfl
@[simp] theorem withPorts_inputs : (s.withPorts p q).inputs = q := rfl
@[simp] theorem withPorts_mem (sp : MemSpace) : (s.withPorts p q).mem sp = s.mem sp := by
  cases sp <;> rfl
@[simp] theorem withPorts_byteAt (sp : MemSpace) (a : Nat) :
    (s.withPorts p q).byteAt sp a = s.byteAt sp a := by
  cases sp <;> rfl
@[simp] theorem withPorts_frameEvent : frameEvent (s.withPorts p q) = frameEvent s := rfl
@[simp] theorem withPorts_statValue (r : StatReg) :
    statValue (s.withPorts p q) r = statValue s r := by
  cases r <;> rfl

@[simp] theorem withPorts_zeroVotes (d : Duration) :
    zeroVotes (s.withPorts p q) d = zeroVotes s d := rfl
@[simp] theorem withPorts_oneVotes (d : Duration) :
    oneVotes (s.withPorts p q) d = oneVotes s d := rfl
@[simp] theorem withPorts_timesOut (timeout : Bool) (old new : Duration) :
    timesOut timeout (s.withPorts p q) old new = timesOut timeout s old new := rfl
@[simp] theorem withPorts_memRead (sp : MemSpace) (a : Nat) :
    memRead sp a (s.withPorts p q) = memRead sp a s := by
  simp only [memRead, withPorts_byteAt]

/-! ### The updates of State commute with it -/

@[simp] theorem withPorts_setEn (b : Bool) :
    (s.withPorts p q).setEn b = (s.setEn b).withPorts p q := rfl
@[simp] theorem withPorts_setCfg (c : Profile) :
    (s.withPorts p q).setCfg c = (s.setCfg c).withPorts p q := rfl
@[simp] theorem withPorts_setRx (r : RxSession) :
    (s.withPorts p q).setRx r = (s.setRx r).withPorts p q := rfl
@[simp] theorem withPorts_setTx (t : TxSession) :
    (s.withPorts p q).setTx t = (s.setTx t).withPorts p q := rfl
@[simp] theorem withPorts_setSa (a : Adapter) :
    (s.withPorts p q).setSa a = (s.setSa a).withPorts p q := rfl
@[simp] theorem withPorts_setMem (sp : MemSpace) (m : Memory) :
    (s.withPorts p q).setMem sp m = (s.setMem sp m).withPorts p q := by
  cases sp <;> rfl
@[simp] theorem withPorts_emit (e : PortEvent) :
    (s.withPorts p q).emit e = (s.emit e).withPorts p q := by
  simp [State.emit, State.withPorts]
@[simp] theorem withPorts_rxInit : rxInit (s.withPorts p q) = (rxInit s).withPorts p q := rfl
@[simp] theorem withPorts_txInit : txInit (s.withPorts p q) = (txInit s).withPorts p q := rfl
@[simp] theorem withPorts_initSessions :
    initSessions (s.withPorts p q) = (initSessions s).withPorts p q := rfl
@[simp] theorem withPorts_resetAll : resetAll (s.withPorts p q) = (resetAll s).withPorts p q := rfl
@[simp] theorem withPorts_recordCause (c : ResetCause) :
    recordCause c (s.withPorts p q) = (recordCause c s).withPorts p q := by
  cases c <;> rfl
@[simp] theorem withPorts_clearVotes :
    clearVotes (s.withPorts p q) = (clearVotes s).withPorts p q := rfl
@[simp] theorem withPorts_rxMark (d : Duration) :
    rxMark d (s.withPorts p q) = (rxMark d s).withPorts p q := rfl

/-! ### Answering -/

theorem respond_withPorts (st : Status) (rd : Word) :
    respond st rd (s.withPorts p q) = mapNext (State.withPorts p q) (respond st rd s) := by
  simp [respond, mapNext]

theorem refuse_withPorts (st : Status) :
    refuse st (s.withPorts p q) = mapNext (State.withPorts p q) (refuse st s) :=
  respond_withPorts p q s st 0

theorem complete_withPorts (r : Except Fault State) :
    complete (r.map (State.withPorts p q)) = mapNext (State.withPorts p q) (complete r) := by
  cases r with
  | ok s => exact respond_withPorts p q s .ok 0
  | error f => rfl

/-! ### The memories and the reset of the receive session -/

theorem memWrite_withPorts (sp : MemSpace) (a : Nat) (v : Byte) :
    memWrite sp a v (s.withPorts p q) = (memWrite sp a v s).map (State.withPorts p q) := by
  simp only [memWrite, withPorts_mem, withPorts_setMem]
  split <;> rfl

theorem flush_withPorts :
    flush (s.withPorts p q) = (flush s).map (State.withPorts p q) := by
  simp only [flush, withPorts_rx, withPorts_frameEvent, withPorts_emit]
  split
  · rfl
  · split <;> rfl

theorem rxReset_withPorts (c : ResetCause) :
    rxReset c (s.withPorts p q) = (rxReset c s).map (State.withPorts p q) := by
  simp only [rxReset, flush_withPorts]
  cases flush s with
  | ok s1 => simp [Except.map]
  | error f => rfl

/-! ### Receiving -/

theorem rxByteDone_withPorts :
    rxByteDone (s.withPorts p q) = (rxByteDone s).map (State.withPorts p q) := by
  simp only [rxByteDone, memWrite_withPorts, withPorts_rx]
  cases memWrite .frameBuf s.rx.len.toNat s.rx.acc s with
  | error f => rfl
  | ok s1 =>
    simp only [Except.map, withPorts_rx, withPorts_setRx, withPorts_cfg, rxReset_withPorts]
    split <;> rfl

theorem rxSyncBit_withPorts (b : Bool) :
    rxSyncBit b (s.withPorts p q) = (rxSyncBit b s).map (State.withPorts p q) := by
  simp only [rxSyncBit, withPorts_rx, withPorts_cfg, withPorts_setRx, rxReset_withPorts]
  split
  · split <;> rfl
  · rfl

theorem rxShiftBit_withPorts (b : Bool) :
    rxShiftBit b (s.withPorts p q) = (rxShiftBit b s).map (State.withPorts p q) := by
  simp only [rxShiftBit, withPorts_rx, withPorts_cfg, withPorts_setRx, rxByteDone_withPorts]
  split <;> rfl

theorem rxCheckBit_withPorts (b : Bool) :
    rxCheckBit b (s.withPorts p q) = (rxCheckBit b s).map (State.withPorts p q) := by
  simp only [rxCheckBit, withPorts_rx, withPorts_cfg, rxByteDone_withPorts, rxReset_withPorts]
  split <;> rfl

theorem rxDataBit_withPorts (b : Bool) :
    rxDataBit b (s.withPorts p q) = (rxDataBit b s).map (State.withPorts p q) := by
  simp only [rxDataBit, withPorts_rx, withPorts_cfg, rxShiftBit_withPorts, rxCheckBit_withPorts]
  split
  · rfl
  · split <;> rfl

theorem rxBit_withPorts (b : Bool) :
    rxBit b (s.withPorts p q) = (rxBit b s).map (State.withPorts p q) := by
  simp only [rxBit, withPorts_rx, rxDataBit_withPorts, rxSyncBit_withPorts]
  split <;> rfl

theorem rxSpace_withPorts (d : Duration) :
    rxSpace d (s.withPorts p q) = (rxSpace d s).map (State.withPorts p q) := by
  simp only [rxSpace, withPorts_rx, withPorts_zeroVotes, withPorts_oneVotes, withPorts_clearVotes,
    rxReset_withPorts, rxBit_withPorts]
  split
  · split <;> rfl
  · rfl

theorem rxFeed_withPorts (d : Duration) (l : Level) :
    rxFeed d l (s.withPorts p q) = (rxFeed d l s).map (State.withPorts p q) := by
  cases l with
  | mark => rfl
  | space =>
    simp only [rxFeed, withPorts_cfg, rxReset_withPorts, rxSpace_withPorts]
    split <;> rfl

theorem saSame_withPorts (timeout : Bool) :
    saSame timeout (s.withPorts p q) = (saSame timeout s).map (State.withPorts p q) := by
  simp only [saSame, withPorts_sa, withPorts_timesOut, withPorts_setSa, rxFeed_withPorts]
  split <;> rfl

theorem saEdge_withPorts (l : Level) :
    saEdge l (s.withPorts p q) = (saEdge l s).map (State.withPorts p q) := by
  simp only [saEdge, withPorts_sa, rxFeed_withPorts]
  cases rxFeed s.sa.run s.sa.level s <;> rfl

theorem saSample_withPorts (timeout : Bool) (l : Level) :
    saSample timeout l (s.withPorts p q) = (saSample timeout l s).map (State.withPorts p q) := by
  simp only [saSample, withPorts_sa, withPorts_setSa, saSame_withPorts, saEdge_withPorts]
  split
  · split <;> rfl
  · rfl

/-! ### Sending -/

theorem txDataBit_withPorts :
    txDataBit (s.withPorts p q) = (txDataBit s).map (Prod.map id (State.withPorts p q)) := by
  simp only [txDataBit, withPorts_tx, withPorts_cfg, withPorts_memRead, withPorts_setTx]
  cases memRead .txBuf s.tx.byteIdx.toNat s <;> rfl

theorem txCheckBit_withPorts :
    txCheckBit (s.withPorts p q) = (txCheckBit s).map (Prod.map id (State.withPorts p q)) := by
  simp only [txCheckBit, withPorts_tx, withPorts_cfg, withPorts_setTx]
  split <;> rfl

theorem txData_withPorts :
    txData (s.withPorts p q) = (txData s).map (Prod.map id (State.withPorts p q)) := by
  simp only [txData, withPorts_tx, withPorts_cfg, withPorts_setTx, txDataBit_withPorts,
    txCheckBit_withPorts]
  split
  · rfl
  · split
    · rfl
    · split
      · rfl
      · split <;> rfl

theorem txSync_withPorts :
    txSync (s.withPorts p q) = Prod.map id (State.withPorts p q) (txSync s) := by
  simp only [txSync, withPorts_tx, withPorts_cfg, withPorts_setTx,
    apply_ite (Prod.map id (State.withPorts p q)), Prod.map_apply, id_eq]
  rfl

theorem txStep_withPorts :
    txStep (s.withPorts p q) = (txStep s).map (Prod.map id (State.withPorts p q)) := by
  simp only [txStep, withPorts_tx, withPorts_cfg, withPorts_txInit, txData_withPorts,
    txSync_withPorts]
  cases s.tx.state <;> rfl

/-! ### The commands -/

theorem execCfgw_withPorts (idx : BitVec 5) (val : Duration) :
    execCfgw idx val (s.withPorts p q) = mapNext (State.withPorts p q) (execCfgw idx val s) := by
  simp only [execCfgw, withPorts_en, withPorts_cfg, withPorts_setCfg, respond_withPorts,
    refuse_withPorts]
  split
  · rfl
  · split <;> rfl

theorem execCfgr_withPorts (idx : BitVec 5) :
    execCfgr idx (s.withPorts p q) = mapNext (State.withPorts p q) (execCfgr idx s) := by
  simp only [execCfgr, withPorts_cfg, respond_withPorts, refuse_withPorts]
  split <;> rfl

theorem execEnable_withPorts :
    execEnable (s.withPorts p q) = mapNext (State.withPorts p q) (execEnable s) := by
  simp only [execEnable, withPorts_en, withPorts_cfg, withPorts_setEn, withPorts_initSessions,
    respond_withPorts, refuse_withPorts]
  split
  · rfl
  · split <;> rfl

theorem execDisable_withPorts :
    execDisable (s.withPorts p q) = mapNext (State.withPorts p q) (execDisable s) := by
  simp only [execDisable, withPorts_en, withPorts_setEn, withPorts_initSessions,
    respond_withPorts, refuse_withPorts]
  split <;> rfl

theorem execStrd_withPorts (idx : BitVec 5) :
    execStrd idx (s.withPorts p q) = mapNext (State.withPorts p q) (execStrd idx s) := by
  simp only [execStrd, withPorts_statValue, respond_withPorts, refuse_withPorts]
  split <;> rfl

theorem execFeed_withPorts (l : Level) (d : Duration) :
    execFeed l d (s.withPorts p q) = mapNext (State.withPorts p q) (execFeed l d s) := by
  simp only [execFeed, withPorts_en, rxFeed_withPorts, complete_withPorts, refuse_withPorts]
  split <;> rfl

theorem sampleWith_withPorts (timeout : Bool) (smp : Byte) :
    sampleWith timeout smp (s.withPorts p q) =
      mapNext (State.withPorts p q) (sampleWith timeout smp s) := by
  simp only [sampleWith, withPorts_en, saSample_withPorts, complete_withPorts, refuse_withPorts]
  split <;> rfl

theorem execTxload_withPorts (addr : BitVec 8) (data : Byte) :
    execTxload addr data (s.withPorts p q) =
      mapNext (State.withPorts p q) (execTxload addr data s) := by
  simp only [execTxload, withPorts_tx, memWrite_withPorts, complete_withPorts, refuse_withPorts]
  split
  · split <;> rfl
  · rfl

theorem execTxstart_withPorts (len : BitVec 8) :
    execTxstart len (s.withPorts p q) = mapNext (State.withPorts p q) (execTxstart len s) := by
  simp only [execTxstart, withPorts_en, withPorts_tx, withPorts_setTx, respond_withPorts,
    refuse_withPorts]
  split
  · split
    · split <;> rfl
    · rfl
  · rfl

theorem execTxstep_withPorts :
    execTxstep (s.withPorts p q) = mapNext (State.withPorts p q) (execTxstep s) := by
  simp only [execTxstep, txStep_withPorts]
  cases txStep s with
  | ok r => exact respond_withPorts p q r.2 .ok _
  | error f => rfl

/-- No command reads the ports: with other ports it does the same to everything else and shows the same. -/
theorem exec_withPorts (i : Instr) :
    exec i (s.withPorts p q) = mapNext (State.withPorts p q) (exec i s) := by
  cases i with
  | nop => exact respond_withPorts p q s .ok 0
  | reset => exact respond_withPorts p q (resetAll s) .ok 0
  | cfgw idx val => exact execCfgw_withPorts p q s idx val
  | cfgr idx => exact execCfgr_withPorts p q s idx
  | enable => exact execEnable_withPorts p q s
  | disable => exact execDisable_withPorts p q s
  | feed l d => exact execFeed_withPorts p q s l d
  | sample smp => exact sampleWith_withPorts p q s Config.saIdleTimeout smp
  | txload addr data => exact execTxload_withPorts p q s addr data
  | txstart len => exact execTxstart_withPorts p q s len
  | txstep => exact execTxstep_withPorts p q s
  | strd idx => exact execStrd_withPorts p q s idx

end

theorem mapNext_eq_next {f : State → State} {a : Answer} {t : State} (h : mapNext f a = .next t) :
    ∃ u, a = .next u ∧ t = f u := by
  cases a with
  | next u => exact ⟨u, rfl, by cases h; rfl⟩
  | fault r => cases h
  | refused r => cases h

/-- Settles O21: `s` and `s` with other ports are the same hardware with empty ports, seen through two
`withPorts`; what the command showed there is `new`. -/
theorem outputsAndInputsDoNotMatter : Obligations.OutputsAndInputsDoNotMatter := by
  intro i s t o q hexec
  have hports : ∀ o' q', exec i { s with outputs := o', inputs := q' } =
      mapNext (State.withPorts o' q') (exec i { s with outputs := [], inputs := [] }) := by
    intro o' q'
    rw [← exec_withPorts]
    simp [State.withPorts]
  obtain ⟨u, hu, rfl⟩ := mapNext_eq_next ((hports s.outputs s.inputs).symm.trans hexec)
  refine ⟨u.outputs, rfl, ?_⟩
  rw [hports o q, hu]
  rfl

end Sys2Proof.Machine
end

section
/-! SUPPORT. What every command can do before it answers, said once for all twelve (spec/40_control.md R100 to
R107, spec/41_receive.md R120, spec/42_sample_adapter.md R150, spec/43_transmit.md R160 to R162). -/

namespace Sys2Proof.Machine

/-- `Change s i u`: the command `i`, run in `s`, makes the state `u` and then answers. A command that is
refused, or that only reads, changes nothing. -/
inductive Change (s : State) : Instr → State → Prop where
  | none (i : Instr) : Change s i s
  | reset : Change s .reset (resetAll s)
  | cfgw {idx : BitVec 5} {val : Duration} {i : Fin Config.cfgCount} (disabled : s.en = false) :
      Change s (.cfgw idx val) (s.setCfg (s.cfg.set i val))
  | enable (legal : LegalProfile s.cfg) : Change s .enable (initSessions (s.setEn true))
  | disable : Change s .disable (initSessions (s.setEn false))
  | feed {l : Level} {d : Duration} {u : State} (enabled : s.en = true) (fed : rxFeed d l s = .ok u) :
      Change s (.feed l d) u
  | sample {smp : Byte} {u : State} (enabled : s.en = true)
      (sampled : saSample Config.saIdleTimeout (sampleLevel smp) s = .ok u) : Change s (.sample smp) u
  | txload {addr : BitVec 8} {data : Byte} {u : State}
      (written : memWrite .txBuf addr.toNat data s = .ok u) : Change s (.txload addr data) u
  | txstart {len : BitVec 8} (enabled : s.en = true) (inRange : len.toNat ≤ 32) :
      Change s (.txstart len) (s.setTx ⟨.sync, 0, 0, false, len.setWidth 6⟩)
  | txstep {p : Pair} {u : State} (stepped : txStep s = .ok (p, u)) : Change s .txstep u

/-- The command `i`, run in `s`, makes one of its changes and ends in `t` with one response. -/
def AnswersAfterChange (i : Instr) (s t : State) : Prop :=
  ∃ u, Change s i u ∧ ∃ st rd, t = u.emit (.response st rd)

theorem answers_of_respond {i : Instr} {s u t : State} {st : Status} {rd : Word} (hu : Change s i u)
    (h : respond st rd u = .next t) : AnswersAfterChange i s t :=
  ⟨u, hu, st, rd, respond_next h⟩

theorem answers_of_refuse {i : Instr} {s t : State} {st : Status} (h : refuse st s = .next t) :
    AnswersAfterChange i s t :=
  answers_of_respond (.none i) h

theorem answers_of_complete {i : Instr} {s t : State} {r : Except Fault State}
    (hr : ∀ u, r = .ok u → Change s i u) (h : complete r = .next t) : AnswersAfterChange i s t := by
  obtain ⟨u, hu, rfl⟩ := complete_next h
  exact ⟨u, hr u hu, _, _, rfl⟩

theorem execCfgw_change {idx : BitVec 5} {val : Duration} {s t : State}
    (h : execCfgw idx val s = .next t) : AnswersAfterChange (.cfgw idx val) s t := by
  unfold execCfgw at h
  split at h
  · exact answers_of_refuse h
  · split at h
    · exact answers_of_refuse h
    · next hen => exact answers_of_respond (.cfgw (by simpa using hen)) h

theorem execCfgr_change {idx : BitVec 5} {s t : State} (h : execCfgr idx s = .next t) :
    AnswersAfterChange (.cfgr idx) s t := by
  unfold execCfgr at h
  split at h <;> exact answers_of_respond (.none _) h

theorem execEnable_change {s t : State} (h : execEnable s = .next t) :
    AnswersAfterChange .enable s t := by
  unfold execEnable at h
  split at h
  · exact answers_of_refuse h
  · split at h
    · next hok => exact answers_of_respond (.enable ((profileOk_iff s.cfg).mp hok)) h
    · exact answers_of_refuse h

theorem execDisable_change {s t : State} (h : execDisable s = .next t) :
    AnswersAfterChange .disable s t := by
  unfold execDisable at h
  split at h
  · exact answers_of_respond .disable h
  · exact answers_of_refuse h

theorem execFeed_change {l : Level} {d : Duration} {s t : State} (h : execFeed l d s = .next t) :
    AnswersAfterChange (.feed l d) s t := by
  unfold execFeed at h
  split at h
  · next hen => exact answers_of_complete (fun _ => .feed hen) h
  · exact answers_of_refuse h

theorem execSample_change {smp : Byte} {s t : State} (h : execSample smp s = .next t) :
    AnswersAfterChange (.sample smp) s t := by
  unfold execSample sampleWith at h
  split at h
  · next hen => exact answers_of_complete (fun _ => .sample hen) h
  · exact answers_of_refuse h

theorem execTxload_change {addr : BitVec 8} {data : Byte} {s t : State}
    (h : execTxload addr data s = .next t) : AnswersAfterChange (.txload addr data) s t := by
  unfold execTxload at h
  split at h
  · split at h
    · exact answers_of_complete (fun _ => .txload) h
    · exact answers_of_refuse h
  · exact answers_of_refuse h

theorem execTxstart_change {len : BitVec 8} {s t : State} (h : execTxstart len s = .next t) :
    AnswersAfterChange (.txstart len) s t := by
  unfold execTxstart at h
  split at h
  · next hlen =>
    split at h
    · next hen =>
      split at h
      · exact answers_of_respond (.txstart hen (of_decide_eq_true hlen)) h
      · exact answers_of_refuse h
    · exact answers_of_refuse h
  · exact answers_of_refuse h

theorem execTxstep_change {s t : State} (h : execTxstep s = .next t) :
    AnswersAfterChange .txstep s t := by
  unfold execTxstep at h
  split at h
  · next hstep => exact answers_of_respond (.txstep hstep) h
  · cases h

theorem execStrd_change {idx : BitVec 5} {s t : State} (h : execStrd idx s = .next t) :
    AnswersAfterChange (.strd idx) s t := by
  unfold execStrd at h
  split at h <;> exact answers_of_respond (.none _) h

/-- Every command that ends in a next state made one of its changes and answered. -/
theorem exec_change {i : Instr} {s t : State} (h : exec i s = .next t) : AnswersAfterChange i s t := by
  cases i with
  | nop => exact answers_of_respond (.none _) h
  | reset => exact answers_of_respond .reset h
  | cfgw idx val => exact execCfgw_change h
  | cfgr idx => exact execCfgr_change h
  | enable => exact execEnable_change h
  | disable => exact execDisable_change h
  | feed l d => exact execFeed_change h
  | sample smp => exact execSample_change h
  | txload addr data => exact execTxload_change h
  | txstart len => exact execTxstart_change h
  | txstep => exact execTxstep_change h
  | strd idx => exact execStrd_change h

end Sys2Proof.Machine
end

section
/-! SUPPORT. The diagnostics (spec/10_state.md R38, R39, spec/60_exceptions.md R182, R189): every receive
operation leaves them alone or ends in one `rx_reset` with an error, and no other command but `RESET` touches
them. -/

namespace Sys2Proof.Machine

/-- Starting from the diagnostics `d`, at most one framing error was met on the way to `t`: none, or one with
its code, one saturating count and a cleared receive session. -/
def AtMostOneError (d : Diagnostics) (t : State) : Prop :=
  t.diag = d
    ∨ (t.rx = rxCleared ∧ ∃ e, e ≠ ErrCode.noError ∧ t.diag = ⟨plusOneSat d.errCnt, e⟩)

theorem ResetCause.errCode_ne_noError {c : ResetCause} {e : ErrCode} (h : c.errCode = some e) :
    e ≠ .noError := by
  rintro rfl
  cases c <;> cases h

/-- The flush shows the frame and touches nothing else. -/
theorem flush_diag {s t : State} (h : flush s = .ok t) : t.diag = s.diag := by
  obtain ⟨-, rfl⟩ | ⟨-, -, rfl⟩ := flush_ok h <;> rfl

/-- An end of frame leaves the diagnostics alone, every other cause counts one error. -/
theorem rxReset_atMostOneError {c : ResetCause} {s t : State} (h : rxReset c s = .ok t) :
    AtMostOneError s.diag t := by
  obtain ⟨s1, hflush, rfl⟩ := rxReset_ok h
  rw [← flush_diag hflush, AtMostOneError, recordCause_eq, ← satInc_eq]
  cases hcode : c.errCode with
  | none => exact .inl rfl
  | some e => exact .inr ⟨rfl, e, ResetCause.errCode_ne_noError hcode, rfl⟩

theorem rxByteDone_atMostOneError {s t : State} (h : rxByteDone s = .ok t) :
    AtMostOneError s.diag t := by
  obtain ⟨s2, rfl, -, ⟨-, hreset⟩ | ⟨-, rfl⟩⟩ := rxByteDone_ok h
  · exact (rxReset_atMostOneError hreset :)
  · exact .inl rfl

theorem rxSyncBit_atMostOneError {b : Bool} {s t : State} (h : rxSyncBit b s = .ok t) :
    AtMostOneError s.diag t := by
  obtain ⟨-, -, rfl⟩ | ⟨-, -, hreset⟩ | ⟨-, rfl⟩ := rxSyncBit_ok h
  · exact .inl rfl
  · exact (rxReset_atMostOneError hreset :)
  · exact .inl rfl

theorem rxDataBit_atMostOneError {b : Bool} {s t : State} (h : rxDataBit b s = .ok t) :
    AtMostOneError s.diag t := by
  obtain ⟨s1, rfl, -, ⟨-, -, hdone⟩ | ⟨-, rfl⟩⟩ | ⟨-, ⟨-, hdone⟩ | ⟨-, hreset⟩⟩ := rxDataBit_ok h
  · exact (rxByteDone_atMostOneError hdone :)
  · exact .inl rfl
  · exact (rxByteDone_atMostOneError hdone :)
  · exact (rxReset_atMostOneError hreset :)

theorem rxSpace_atMostOneError {d : Duration} {s t : State} (h : rxSpace d s = .ok t) :
    AtMostOneError s.diag t := by
  obtain ⟨-, rfl⟩ | ⟨-, -, htie⟩ | ⟨-, -, ⟨-, hdata⟩ | ⟨-, hsync⟩⟩ := rxSpace_ok h
  · exact .inl rfl
  · exact (rxReset_atMostOneError htie :)
  · exact (rxDataBit_atMostOneError hdata :)
  · exact (rxSyncBit_atMostOneError hsync :)

theorem rxFeed_atMostOneError {d : Duration} {l : Level} {s t : State} (h : rxFeed d l s = .ok t) :
    AtMostOneError s.diag t := by
  obtain ⟨-, rfl⟩ | ⟨-, -, hreset⟩ | ⟨-, -, hspace⟩ := rxFeed_ok h
  · exact .inl rfl
  · exact (rxReset_atMostOneError hreset :)
  · exact rxSpace_atMostOneError hspace

/-- A sample reports at most one run, so it meets at most one error. -/
theorem saSample_atMostOneError {timeout : Bool} {l : Level} {s t : State}
    (h : saSample timeout l s = .ok t) : AtMostOneError s.diag t := by
  obtain ⟨-, rfl⟩ | ⟨-, -, -, rfl⟩ | ⟨-, -, -, hfeed⟩ | ⟨-, -, s1, hfeed, rfl⟩ := saSample_ok h
  · exact .inl rfl
  · exact .inl rfl
  · exact (rxFeed_atMostOneError hfeed :)
  · exact rxFeed_atMostOneError (t := s1) hfeed

/-- A step of the transmit session moves nothing but that session. -/
theorem txStep_eq_setTx {s t : State} {p : Pair} (h : txStep s = .ok (p, t)) :
    t = s.setTx t.tx := by
  obtain ⟨-, -, rfl⟩ | ⟨-, hsync⟩ | ⟨-, hdata⟩ | ⟨-, -, rfl⟩ := txStep_ok h
  · rfl
  · obtain ⟨-, heq⟩ | ⟨-, heq⟩ := txSync_cases s <;>
      (rw [heq] at hsync; obtain ⟨-, rfl⟩ := Prod.mk.inj hsync; rfl)
  · obtain ⟨-, -, rfl⟩ | ⟨-, -, hbit⟩ | ⟨-, -, hcheck⟩ := txData_ok hdata
    · rfl
    · obtain ⟨b, -, -, -, rfl⟩ := txDataBit_ok hbit
      rfl
    · obtain ⟨b, -, -, rfl⟩ := txCheckBit_ok hcheck
      rfl
  · rfl

/-- Settles O24: only the changes of `FEED` and `SAMPLE` reach the diagnostics, `RESET` aside. -/
theorem oneFramingErrorPerCommand : Obligations.OneFramingErrorPerCommand := by
  intro i s t hexec hne
  obtain ⟨u, hchange, st, rd, rfl⟩ := exec_change hexec
  simp only [emit_diag, emit_rx]
  cases hchange with
  | reset => exact absurd rfl hne
  | feed _ hfed => exact (rxFeed_atMostOneError hfed).imp id fun herror => ⟨rfl, herror⟩
  | sample _ hsampled => exact (saSample_atMostOneError hsampled).imp id fun herror => ⟨rfl, herror⟩
  | txload hwritten =>
    obtain ⟨-, rfl⟩ := memWrite_ok hwritten
    exact .inl rfl
  | txstep hstepped =>
    rw [txStep_eq_setTx hstepped]
    exact .inl rfl
  | none | cfgw | enable | disable | txstart => exact .inl rfl

end Sys2Proof.Machine
end

section
/-! SUPPORT. What receiving touches: the receive session, `FRAMEBUF`, the diagnostics and the output ports, and
neither `cfg`, `en`, the adapter nor the transmit session (spec/41_receive.md R135). -/

namespace Sys2Proof.Machine

/-- From `s` to `t` nothing changed but what a receive operation may touch. -/
def OnlyReceive (s t : State) : Prop :=
  t = { s with rx := t.rx, frameBuf := t.frameBuf, diag := t.diag, outputs := t.outputs }

theorem OnlyReceive.sa_eq {s t : State} (h : OnlyReceive s t) : t.sa = s.sa := by
  rw [h]

theorem rxReset_onlyReceive {c : ResetCause} {s t : State} (h : rxReset c s = .ok t) :
    OnlyReceive s t := by
  obtain ⟨s1, hflush, rfl⟩ := rxReset_ok h
  rw [recordCause_eq]
  obtain ⟨-, rfl⟩ | ⟨-, -, rfl⟩ := flush_ok hflush <;> rfl

theorem rxByteDone_onlyReceive {s t : State} (h : rxByteDone s = .ok t) : OnlyReceive s t := by
  obtain ⟨s2, rfl, -, ⟨-, hreset⟩ | ⟨-, rfl⟩⟩ := rxByteDone_ok h
  · exact (rxReset_onlyReceive hreset :)
  · rfl

theorem rxSyncBit_onlyReceive {b : Bool} {s t : State} (h : rxSyncBit b s = .ok t) :
    OnlyReceive s t := by
  obtain ⟨-, -, rfl⟩ | ⟨-, -, hreset⟩ | ⟨-, rfl⟩ := rxSyncBit_ok h
  · rfl
  · exact rxReset_onlyReceive hreset
  · rfl

theorem rxDataBit_onlyReceive {b : Bool} {s t : State} (h : rxDataBit b s = .ok t) :
    OnlyReceive s t := by
  obtain ⟨s1, rfl, -, ⟨-, -, hdone⟩ | ⟨-, rfl⟩⟩ | ⟨-, ⟨-, hdone⟩ | ⟨-, hreset⟩⟩ := rxDataBit_ok h
  · exact (rxByteDone_onlyReceive hdone :)
  · rfl
  · exact rxByteDone_onlyReceive hdone
  · exact rxReset_onlyReceive hreset

theorem rxSpace_onlyReceive {d : Duration} {s t : State} (h : rxSpace d s = .ok t) :
    OnlyReceive s t := by
  obtain ⟨-, rfl⟩ | ⟨-, -, htie⟩ | ⟨-, -, ⟨-, hdata⟩ | ⟨-, hsync⟩⟩ := rxSpace_ok h
  · rfl
  · exact (rxReset_onlyReceive htie :)
  · exact (rxDataBit_onlyReceive hdata :)
  · exact (rxSyncBit_onlyReceive hsync :)

theorem rxFeed_onlyReceive {d : Duration} {l : Level} {s t : State} (h : rxFeed d l s = .ok t) :
    OnlyReceive s t := by
  obtain ⟨-, rfl⟩ | ⟨-, -, hreset⟩ | ⟨-, -, hspace⟩ := rxFeed_ok h
  · rfl
  · exact rxReset_onlyReceive hreset
  · exact rxSpace_onlyReceive hspace

end Sys2Proof.Machine
end

section
/-! SUPPORT. The bits of a byte being received (spec/41_receive.md R131): shifting in the next bit keeps the
accumulator below the bits received so far, and its parity is the XOR of them. -/

namespace Sys2Proof.Machine

/-! ### The XOR of some bits -/

theorem xorAll_append_singleton (bs : List Bool) (b : Bool) : xorAll (bs ++ [b]) = (xorAll bs ^^ b) := by
  simp [xorAll]

theorem xorAll_cons (b : Bool) (bs : List Bool) : xorAll (b :: bs) = (b ^^ xorAll bs) := by
  induction bs using List.reverseRecOn with
  | nil => simp [xorAll]
  | append_singleton bs c ih =>
    rw [← List.cons_append, xorAll_append_singleton, ih, xorAll_append_singleton, Bool.xor_assoc]

/-- The XOR of the bits at the places below `n`. -/
abbrev xorBelow (n : Nat) (f : Nat → Bool) : Bool := xorAll ((List.range n).map f)

theorem xorBelow_succ (n : Nat) (f : Nat → Bool) : xorBelow (n + 1) f = (xorBelow n f ^^ f n) := by
  rw [xorBelow, List.range_succ, List.map_append, List.map_singleton, xorAll_append_singleton]

/-- Every bit one place up and `b` at place 0. -/
theorem xorBelow_shift {n : Nat} {f g : Nat → Bool} {b : Bool} (h0 : g 0 = b)
    (hsucc : ∀ i, i < n → g (i + 1) = f i) : xorBelow (n + 1) g = (b ^^ xorBelow n f) := by
  have hmap : (List.range n).map (g ∘ Nat.succ) = (List.range n).map f :=
    List.map_congr_left fun i hi => hsucc i (List.mem_range.mp hi)
  rw [xorBelow, List.range_succ_eq_map, List.map_cons, List.map_map, hmap, xorAll_cons, h0]

/-- `b` added at place `k`. -/
theorem xorBelow_toggle {k : Nat} {f g : Nat → Bool} {b : Bool} (n : Nat)
    (h : ∀ i, i < n → g i = (f i ^^ (decide (i = k) && b))) :
    xorBelow n g = (xorBelow n f ^^ (decide (k < n) && b)) := by
  induction n with
  | zero => rfl
  | succ n ih =>
    rw [xorBelow_succ, xorBelow_succ, ih fun i hi => h i (by omega), h n (by omega)]
    rcases Nat.lt_trichotomy k n with hlt | rfl | hgt
    · have hne : n ≠ k := by omega
      have hlt' : k < n + 1 := by omega
      simp only [hlt, hlt', hne, decide_true, decide_false, Bool.true_and, Bool.false_and, Bool.xor_false]
      rw [Bool.xor_assoc, Bool.xor_comm b, ← Bool.xor_assoc]
    · simp
    · have hne : n ≠ k := by omega
      have hge : ¬ k < n := by omega
      have hge' : ¬ k < n + 1 := by omega
      simp [hne, hge, hge']

/-! ### The accumulator -/

theorem getLsbD_eq_false_of_lt {v : Byte} {k i : Nat} (hv : v.toNat < 2 ^ k) (hi : k ≤ i) :
    v.getLsbD i = false :=
  Nat.testBit_eq_false_of_lt (hv.trans_le (Nat.pow_le_pow_right (by decide) hi))

/-- After `k + 1` bits the accumulator is below `2 ^ (k + 1)`, in both bit orders. -/
theorem shiftIn_lt {pf : Profile} {acc : Byte} {k : Nat} (b : Bool) (hacc : acc.toNat < 2 ^ k) :
    (shiftIn pf acc k b).toNat < 2 ^ (k + 1) := by
  have hbit : ((BitVec.ofBool b).setWidth 8).toNat < 2 := by cases b <;> decide
  unfold shiftIn
  split <;> rw [BitVec.toNat_or, BitVec.toNat_shiftLeft, Nat.shiftLeft_eq]
  · refine Nat.or_lt_two_pow ((Nat.mod_le _ _).trans_lt ?_) (hbit.trans_le ?_)
    · omega
    · exact Nat.le_self_pow (by omega) 2
  · refine Nat.or_lt_two_pow (by omega) ((Nat.mod_le _ _).trans_lt ?_)
    rw [Nat.pow_succ']
    exact Nat.mul_lt_mul_of_pos_right hbit (by positivity)

/-- Most significant bit first: the bits received move up and the new one is bit 0. -/
theorem getLsbD_shiftIn_msb {pf : Profile} (hmsb : msbFirst pf = true) (acc : Byte) (k : Nat) (b : Bool) :
    (shiftIn pf acc k b).getLsbD 0 = b
      ∧ ∀ i, i < 7 → (shiftIn pf acc k b).getLsbD (i + 1) = acc.getLsbD i := by
  rw [shiftIn, if_pos hmsb]
  simp only [BitVec.getLsbD_or, BitVec.getLsbD_shiftLeft, BitVec.getLsbD_setWidth, BitVec.getLsbD_ofBool]
  refine ⟨by simp, fun i hi => ?_⟩
  have hi8 : i + 1 < 8 := by omega
  simp [hi8]

/-- Least significant bit first: the new bit is bit `k`, where there was none. -/
theorem getLsbD_shiftIn_lsb {pf : Profile} (hlsb : msbFirst pf = false) {acc : Byte} {k : Nat} (b : Bool)
    (hacc : acc.toNat < 2 ^ k) {i : Nat} (hi : i < 8) :
    (shiftIn pf acc k b).getLsbD i = (acc.getLsbD i ^^ (decide (i = k) && b)) := by
  have hk := getLsbD_eq_false_of_lt hacc (Nat.le_refl k)
  rw [shiftIn, if_neg (by simp [hlsb])]
  simp only [BitVec.getLsbD_or, BitVec.getLsbD_shiftLeft, BitVec.getLsbD_setWidth, BitVec.getLsbD_ofBool]
  rcases Nat.lt_trichotomy i k with hlt | rfl | hgt
  · have hne : i ≠ k := by omega
    simp [hlt, hne]
  · rw [hk]
    simp [hi]
  · have hge : ¬ i < k := by omega
    have hne : i ≠ k := by omega
    have hpos : i - k ≠ 0 := by omega
    simp [hge, hne, hpos]

/-- Shifting a bit in adds it to the parity of the accumulator (`rx_par` in R131). -/
theorem xorBelow_shiftIn {pf : Profile} {acc : Byte} {k : Nat} (b : Bool) (hk : k < 8)
    (hacc : acc.toNat < 2 ^ k) :
    xorBelow 8 (shiftIn pf acc k b).getLsbD = (xorBelow 8 acc.getLsbD ^^ b) := by
  cases horder : msbFirst pf with
  | true =>
    obtain ⟨h0, hsucc⟩ := getLsbD_shiftIn_msb horder acc k b
    have htop : acc.getLsbD 7 = false := getLsbD_eq_false_of_lt hacc (by omega)
    rw [xorBelow_shift h0 hsucc, xorBelow_succ 7, htop, Bool.xor_false, Bool.xor_comm]
  | false =>
    rw [xorBelow_toggle 8 fun i hi => getLsbD_shiftIn_lsb horder b hacc hi]
    simp [hk]

end Sys2Proof.Machine
end

section
/-! SUPPORT. The receive session keeps its invariant (spec/41_receive.md R138): one lemma per way a session
moves on, from the session that meets the invariant to the one after. -/

namespace Sys2Proof.Machine

section
variable {pf : Profile} {r : RxSession} {fb : Memory}

/-- `rx_init` meets the invariant under every legal profile. -/
theorem rxInv_initial (fb : Memory) (hpf : LegalProfile pf) : RxInv pf RxSession.initial fb := by
  obtain ⟨⟨hbits, -⟩, -, -, -, ⟨hmax, -⟩, -⟩ := hpf
  have hbit0 : (0#4).toNat ≠ pf[13].toNat := by
    change 0 ≠ _
    omega
  exact ⟨fun _ => rfl, fun _ => ⟨rfl, rfl, rfl, rfl⟩, fun _ => rfl, Nat.zero_le _, Nat.zero_le _,
    fun h => absurd h hbit0, hmax, fun _ => ⟨rfl, rfl⟩, by decide, rfl,
    fun a ha => absurd ha (Nat.not_lt_zero a)⟩

/-- The votes of a bit period may be set together with `mark_seen`, or all be cleared. -/
theorem rxInv_setVotes (hr : RxInv pf r fb) {zv ov ms : Bool}
    (hvotes : ms = false → zv = false ∧ ov = false) :
    RxInv pf { r with zv := zv, ov := ov, markSeen := ms } fb := by
  obtain ⟨huns, hnot, hsyn, hsync, hbit, hdue, hlen, -, hacc, hpar, hbytes⟩ := hr
  exact ⟨huns, hnot, hsyn, hsync, hbit, hdue, hlen, hvotes, hacc, hpar, hbytes⟩

/-- A preamble bit counts up to `SYNC` and no further (R130). -/
theorem rxInv_countSync (hpf : LegalProfile pf) (hr : RxInv pf r fb) (hstate : r.state ≠ .synced) :
    RxInv pf { r with
      state := .syncing
      syncCnt := if r.syncCnt.toNat < pf[16].toNat then r.syncCnt + 1 else r.syncCnt } fb := by
  obtain ⟨-, -, -, hsync255, -⟩ := hpf
  obtain ⟨-, hnot, -, hsync, hbit, hdue, hlen, hvotes, hacc, hpar, hbytes⟩ := hr
  refine ⟨nofun, fun _ => hnot hstate, nofun, ?_, hbit, hdue, hlen, hvotes,
    hacc, hpar, hbytes⟩
  dsimp only
  split
  · bv_omega
  · exact hsync

/-- The one bit after a full preamble synchronises with an empty byte and no byte held (R129). -/
theorem rxInv_synchronise (hpf : LegalProfile pf) (hr : RxInv pf r fb) :
    RxInv pf { r with state := .synced, syncCnt := 0, bitCnt := 0, acc := 0, par := false } fb := by
  obtain ⟨-, -, -, -, -, -, hlen, hvotes, -, -, hbytes⟩ := hr
  obtain ⟨-, -, -, -, -, hdue0, -, -, hacc0, hpar0, -⟩ := rxInv_initial fb hpf
  exact ⟨nofun, fun h => absurd rfl h, fun _ => rfl, Nat.zero_le _, Nat.zero_le _, hdue0,
    hlen, hvotes, hacc0, hpar0, hbytes⟩

/-- The session after the data bit `b` (R131). -/
abbrev shiftedRx (pf : Profile) (r : RxSession) (b : Bool) : RxSession :=
  { r with acc := shiftIn pf r.acc r.bitCnt.toNat b, par := r.par ^^ b, bitCnt := r.bitCnt + 1 }

/-- A whole byte is in `rx_acc` and there is room for it: what `rx_byte_done` (R133) relies on. -/
structure ByteReady (pf : Profile) (r : RxSession) (fb : Memory) : Prop where
  synced : r.state = .synced
  syncCnt_zero : r.syncCnt = 0
  len_lt : r.len.toNat < pf[17].toNat
  votes : r.markSeen = false → r.zv = false ∧ r.ov = false
  acc_lt : r.acc.toNat < 2 ^ pf[13].toNat
  bytes : ∀ a, a < r.len.toNat → (memGet a fb).any (fun v => decide (v.toNat < 2 ^ pf[13].toNat))

theorem bitCnt_succ_toNat (hpf : LegalProfile pf) (hbit : r.bitCnt.toNat < pf[13].toNat) :
    (r.bitCnt + 1).toNat = r.bitCnt.toNat + 1 := by
  obtain ⟨⟨-, hbits⟩, -⟩ := hpf
  bv_omega

/-- A data bit that leaves its byte incomplete, or with its check bit still due. -/
theorem rxInv_shift (hpf : LegalProfile pf) (hr : RxInv pf r fb) (hstate : r.state = .synced) (b : Bool)
    (hbit : r.bitCnt.toNat < pf[13].toNat)
    (hopen : ¬ ((r.bitCnt + 1).toNat = pf[13].toNat ∧ pf[14] = 0)) : RxInv pf (shiftedRx pf r b) fb := by
  have hcnt := bitCnt_succ_toNat hpf hbit
  obtain ⟨⟨-, hbits⟩, -⟩ := hpf
  obtain ⟨-, -, hsyn, hsync, -, -, hlen, hvotes, hacc, hpar, hbytes⟩ := hr
  have hsynced : (shiftedRx pf r b).state = .synced := hstate
  refine ⟨fun h => by simp [hstate] at h, fun h => absurd hsynced h, hsyn, hsync, ?_,
    fun heq hzero => hopen ⟨heq, hzero⟩, hlen, hvotes, ?_, ?_, hbytes⟩
  · change (r.bitCnt + 1).toNat ≤ _
    omega
  · change _ < 2 ^ (r.bitCnt + 1).toNat
    rw [hcnt]
    exact shiftIn_lt b hacc
  · change (r.par ^^ b) = xorBelow 8 _
    rw [xorBelow_shiftIn b (by omega) hacc, hpar]

/-- A data bit that completes a byte without a check bit. -/
theorem byteReady_shift (hpf : LegalProfile pf) (hr : RxInv pf r fb) (hstate : r.state = .synced)
    (b : Bool) (hbit : r.bitCnt.toNat < pf[13].toNat) (hlast : (r.bitCnt + 1).toNat = pf[13].toNat) :
    ByteReady pf (shiftedRx pf r b) fb := by
  have hcnt := bitCnt_succ_toNat hpf hbit
  obtain ⟨-, -, hsyn, -, -, -, hlen, hvotes, hacc, -, hbytes⟩ := hr
  refine ⟨hstate, hsyn hstate, hlen, hvotes, ?_, hbytes⟩
  rw [← hlast, hcnt]
  exact shiftIn_lt b hacc

/-- A byte whose check bit is due. -/
theorem byteReady_checked (hr : RxInv pf r fb) (hstate : r.state = .synced)
    (hdue : r.bitCnt.toNat = pf[13].toNat) : ByteReady pf r fb := by
  obtain ⟨-, -, hsyn, -, -, -, hlen, hvotes, hacc, -, hbytes⟩ := hr
  exact ⟨hstate, hsyn hstate, hlen, hvotes, hdue ▸ hacc, hbytes⟩

/-- The byte is stored at `rx_len` and the frame is not full yet (R133, R134). -/
theorem rxInv_storeByte (hpf : LegalProfile pf) (hr : ByteReady pf r fb)
    (hroom : r.len.toNat + 1 ≠ pf[17].toNat) :
    RxInv pf { r with len := r.len + 1, acc := 0, bitCnt := 0, par := false }
      (memPut r.len.toNat r.acc fb) := by
  obtain ⟨hstate, hcnt0, hlen, hvotes, hacc, hbytes⟩ := hr
  obtain ⟨-, -, -, -, -, hdue0, -, -, hacc0, hpar0, -⟩ := rxInv_initial fb hpf
  obtain ⟨-, -, -, -, ⟨-, hmax⟩, -⟩ := hpf
  have hsucc : (r.len + 1).toNat = r.len.toNat + 1 := by bv_omega
  refine ⟨fun _ => hcnt0, fun h => absurd hstate h, fun _ => hcnt0, ?_, Nat.zero_le _, hdue0, ?_, hvotes,
    hacc0, hpar0, fun a ha => ?_⟩
  · simp [hcnt0]
  · change (r.len + 1).toNat < _
    omega
  · change a < (r.len + 1).toNat at ha
    rw [memGet_memPut]
    split
    · simpa using hacc
    · exact hbytes a (by omega)

end

end Sys2Proof.Machine
end

section
/-! SUPPORT. Every receive operation keeps the invariant of an enabled state (spec/41_receive.md R138). The
invariant is taken apart into the receive session and the rest, since inside an operation only the rest holds
throughout: `rx_reset` and `rx_byte_done` start from sessions that do not meet the invariant. -/

namespace Sys2Proof.Machine

/-- What the invariant says of an enabled state besides its receive session. -/
structure EnabledRest (s : State) : Prop where
  en : s.en = true
  frameBuf_wf : Memory.wf .frameBuf s.frameBuf = true
  txBuf_wf : Memory.wf .txBuf s.txBuf = true
  diag : s.diag.lastErr = .noError ↔ s.diag.errCnt = 0
  shown : s.outputs.all PortEvent.sound = true
  legal : LegalProfile s.cfg
  tx : TxInv s.cfg s.tx
  sa : SaInv s.sa

/-- The invariant of an enabled state. -/
structure EnabledInv (s : State) : Prop extends EnabledRest s where
  rx : RxInv s.cfg s.rx s.frameBuf

theorem Inv.enabledInv {s : State} (h : Inv s) (hen : s.en = true) : EnabledInv s := by
  obtain ⟨hfb, htb, hdiag, hout, henabled, -⟩ := h
  obtain ⟨hpf, hrx, htx, hsa⟩ := henabled hen
  exact ⟨⟨hen, hfb, htb, hdiag, hout, hpf, htx, hsa⟩, hrx⟩

theorem EnabledInv.inv {s : State} (h : EnabledInv s) : Inv s := by
  obtain ⟨⟨hen, hfb, htb, hdiag, hout, hpf, htx, hsa⟩, hrx⟩ := h
  exact ⟨hfb, htb, hdiag, hout, fun _ => ⟨hpf, hrx, htx, hsa⟩, fun hdis => by simp [hen] at hdis⟩

/-! ### The rest, update by update -/

theorem EnabledRest.setRx {s : State} (h : EnabledRest s) (r : RxSession) : EnabledRest (s.setRx r) :=
  ⟨h.en, h.frameBuf_wf, h.txBuf_wf, h.diag, h.shown, h.legal, h.tx, h.sa⟩

theorem EnabledRest.setSa {s : State} (h : EnabledRest s) {a : Adapter} (ha : SaInv a) :
    EnabledRest (s.setSa a) :=
  ⟨h.en, h.frameBuf_wf, h.txBuf_wf, h.diag, h.shown, h.legal, h.tx, ha⟩

theorem EnabledRest.setFrameBuf {s : State} (h : EnabledRest s) {m : Memory}
    (hm : Memory.wf .frameBuf m = true) : EnabledRest (s.setMem .frameBuf m) :=
  ⟨h.en, hm, h.txBuf_wf, h.diag, h.shown, h.legal, h.tx, h.sa⟩

theorem sound_append {es : List PortEvent} {e : PortEvent} (hes : es.all PortEvent.sound = true)
    (he : e.sound = true) : (es ++ [e]).all PortEvent.sound = true := by
  simp [List.all_append, hes, he]

theorem EnabledRest.emit {s : State} (h : EnabledRest s) {e : PortEvent} (he : e.sound = true) :
    EnabledRest (s.emit e) :=
  ⟨h.en, h.frameBuf_wf, h.txBuf_wf, h.diag, sound_append h.shown he, h.legal, h.tx, h.sa⟩

theorem EnabledRest.setDiag {s : State} (h : EnabledRest s) {d : Diagnostics}
    (hd : d.lastErr = .noError ↔ d.errCnt = 0) : EnabledRest (s.setDiag d) :=
  ⟨h.en, h.frameBuf_wf, h.txBuf_wf, hd, h.shown, h.legal, h.tx, h.sa⟩

/-- A counted error is recorded, and the count never returns to 0. -/
theorem EnabledRest.recordCause {s : State} (h : EnabledRest s) (c : ResetCause) :
    EnabledRest (recordCause c s) := by
  rw [recordCause_eq]
  refine h.setDiag ?_
  cases hcode : c.errCode with
  | none => exact h.diag
  | some e => exact iff_of_false (ResetCause.errCode_ne_noError hcode) (satInc_ne_zero _)

/-- A flushed frame is not empty, fits `FRAMEBUF` and carries as many bytes as it says (R66). -/
theorem frameEvent_sound {s : State} (h1 : 1 ≤ s.rx.len.toNat) (h32 : s.rx.len.toNat ≤ 32) :
    (frameEvent s).sound = true := by
  simp [frameEvent, PortEvent.sound, State.bytesUpTo, h1, h32]

/-! ### The receive operations -/

/-- `rx_init` brings the receive session back into the invariant, whatever it was. -/
theorem EnabledRest.rxInit {s : State} (h : EnabledRest s) : EnabledInv (rxInit s) :=
  ⟨h.setRx _, rxInv_initial s.frameBuf h.legal⟩

theorem EnabledRest.flush {s t : State} (hs : EnabledRest s) (h : flush s = .ok t) : EnabledRest t := by
  obtain ⟨-, rfl⟩ | ⟨h1, h32, rfl⟩ := flush_ok h
  · exact hs
  · exact hs.emit (frameEvent_sound h1 h32)

theorem EnabledRest.rxReset {c : ResetCause} {s t : State} (hs : EnabledRest s)
    (h : rxReset c s = .ok t) : EnabledInv t := by
  obtain ⟨s1, hflush, rfl⟩ := rxReset_ok h
  exact ((hs.flush hflush).recordCause c).rxInit

theorem EnabledRest.rxByteDone {s t : State} (hs : EnabledRest s)
    (hbyte : ByteReady s.cfg s.rx s.frameBuf) (h : rxByteDone s = .ok t) : EnabledInv t := by
  obtain ⟨s2, rfl, hlt, hcases⟩ := rxByteDone_ok h
  have hstored : Memory.wf .frameBuf (memPut s.rx.len.toNat s.rx.acc s.frameBuf) = true :=
    wf_memPut hlt hs.frameBuf_wf
  have hrest := (hs.setFrameBuf hstored).setRx
    { s.rx with len := s.rx.len + 1, acc := 0, bitCnt := 0, par := false }
  obtain ⟨-, hreset⟩ | ⟨hroom, rfl⟩ := hcases
  · exact hrest.rxReset hreset
  · exact ⟨hrest, rxInv_storeByte hs.legal hbyte hroom⟩

theorem EnabledInv.rxSyncBit {b : Bool} {s t : State} (hs : EnabledInv s)
    (hstate : s.rx.state ≠ .synced) (h : rxSyncBit b s = .ok t) : EnabledInv t := by
  obtain ⟨-, -, rfl⟩ | ⟨-, -, hreset⟩ | ⟨-, rfl⟩ := rxSyncBit_ok h
  · exact ⟨hs.setRx _, rxInv_synchronise hs.legal hs.rx⟩
  · exact hs.rxReset hreset
  · exact ⟨hs.setRx _, rxInv_countSync hs.legal hs.rx hstate⟩

theorem EnabledInv.rxDataBit {b : Bool} {s t : State} (hs : EnabledInv s)
    (hstate : s.rx.state = .synced) (h : rxDataBit b s = .ok t) : EnabledInv t := by
  obtain ⟨s1, rfl, hbit, ⟨hlast, -, hdone⟩ | ⟨hopen, rfl⟩⟩ | ⟨hdue, ⟨-, hdone⟩ | ⟨-, hreset⟩⟩ :=
    rxDataBit_ok h
  · exact (hs.setRx (shiftedRx s.cfg s.rx b)).rxByteDone
      (byteReady_shift hs.legal hs.rx hstate b hbit hlast) hdone
  · exact ⟨hs.setRx _, rxInv_shift hs.legal hs.rx hstate b hbit hopen⟩
  · exact hs.rxByteDone (byteReady_checked hs.rx hstate hdue) hdone
  · exact hs.rxReset hreset

theorem EnabledInv.clearVotes {s : State} (hs : EnabledInv s) : EnabledInv (clearVotes s) :=
  ⟨hs.setRx _, rxInv_setVotes hs.rx fun _ => ⟨rfl, rfl⟩⟩

theorem EnabledInv.rxMark {s : State} (hs : EnabledInv s) (d : Duration) : EnabledInv (rxMark d s) :=
  ⟨hs.setRx _, rxInv_setVotes hs.rx nofun⟩

theorem EnabledInv.rxSpace {d : Duration} {s t : State} (hs : EnabledInv s)
    (h : rxSpace d s = .ok t) : EnabledInv t := by
  obtain ⟨-, rfl⟩ | ⟨-, -, htie⟩ | ⟨-, -, ⟨hstate, hdata⟩ | ⟨hstate, hsync⟩⟩ := rxSpace_ok h
  · exact hs
  · exact hs.clearVotes.rxReset htie
  · exact hs.clearVotes.rxDataBit hstate hdata
  · exact hs.clearVotes.rxSyncBit hstate hsync

theorem EnabledInv.rxFeed {d : Duration} {l : Level} {s t : State} (hs : EnabledInv s)
    (h : rxFeed d l s = .ok t) : EnabledInv t := by
  obtain ⟨-, rfl⟩ | ⟨-, -, hreset⟩ | ⟨-, -, hspace⟩ := rxFeed_ok h
  · exact hs.rxMark d
  · exact hs.rxReset hreset
  · exact hs.rxSpace hspace

/-! ### The adapter (spec/42_sample_adapter.md R152 to R155) -/

/-- A run that has begun is at least one sample long. -/
theorem saInv_run {a : Adapter} (l : Level) {run : Duration} (hvalid : a.valid = true) (hrun : run ≠ 0) :
    SaInv { a with level := l, run := run } :=
  ⟨fun h => by simp [hvalid] at h, fun _ => Nat.pos_of_ne_zero fun h0 => hrun (BitVec.eq_of_toNat_eq h0)⟩

theorem EnabledInv.setSa {s : State} (hs : EnabledInv s) {a : Adapter} (ha : SaInv a) :
    EnabledInv (s.setSa a) :=
  ⟨hs.toEnabledRest.setSa ha, hs.rx⟩

theorem EnabledInv.saSample {timeout : Bool} {l : Level} {s t : State} (hs : EnabledInv s)
    (h : saSample timeout l s = .ok t) : EnabledInv t := by
  obtain ⟨-, rfl⟩ | ⟨hv, -, -, rfl⟩ | ⟨hv, -, -, hfeed⟩ | ⟨hv, -, s1, hfeed, rfl⟩ := saSample_ok h
  · exact hs.setSa ⟨nofun, fun _ => Nat.le_refl 1⟩
  · exact hs.setSa (saInv_run s.sa.level hv (satInc_ne_zero _))
  · exact (hs.setSa (saInv_run s.sa.level hv (satInc_ne_zero _))).rxFeed hfeed
  · exact (hs.rxFeed hfeed).setSa (saInv_run l ((rxFeed_onlyReceive hfeed).sa_eq ▸ hv) (by decide))

end Sys2Proof.Machine
end

section
/-! SUPPORT. Every step of the transmit session keeps its invariant (spec/43_transmit.md R163 to R168). -/

namespace Sys2Proof.Machine

theorem txInv_initial (pf : Profile) : TxInv pf TxSession.initial :=
  ⟨fun _ => rfl, nofun, nofun, nofun, Nat.le_refl 0, Nat.zero_le 32⟩

/-- A send starts before its preamble (R161). -/
theorem txInv_start (pf : Profile) {len : BitVec 8} (hlen : len.toNat ≤ 32) :
    TxInv pf ⟨.sync, 0, 0, false, len.setWidth 6⟩ :=
  ⟨nofun, fun _ => ⟨Nat.zero_le _, rfl, rfl⟩, nofun, nofun, Nat.zero_le _, by
    rw [BitVec.toNat_setWidth]
    exact (Nat.mod_le _ _).trans hlen⟩

section
variable {pf : Profile} {t : TxSession}

/-- A preamble bit is counted, up to `SYNC` (R164). -/
theorem txInv_countSync (hpf : LegalProfile pf) (ht : TxInv pf t) (hstate : t.state = .sync)
    (hlt : t.bitIdx.toNat < pf[16].toNat) : TxInv pf { t with bitIdx := t.bitIdx + 1 } := by
  obtain ⟨-, -, -, hsync255, -⟩ := hpf
  obtain ⟨-, hsync, -, -, hbyte, hlen⟩ := ht
  obtain ⟨-, hbyte0, hpar⟩ := hsync hstate
  refine ⟨by simp [hstate], fun _ => ⟨?_, hbyte0, hpar⟩, by simp [hstate], by simp [hstate], hbyte, hlen⟩
  dsimp only
  bv_omega

/-- After the preamble the payload begins, at bit 0 of byte 0 (R164). -/
theorem txInv_startData (hpf : LegalProfile pf) (ht : TxInv pf t) :
    TxInv pf { t with state := .data, byteIdx := 0, bitIdx := 0, par := false } := by
  obtain ⟨⟨hbits, -⟩, -⟩ := hpf
  obtain ⟨-, -, -, -, -, hlen⟩ := ht
  refine ⟨nofun, nofun, fun _ => ⟨Nat.zero_le _, fun h => ?_, fun _ => rfl, fun _ => rfl⟩, nofun,
    Nat.zero_le _, hlen⟩
  change 0 = _ at h
  omega

/-- After the last byte comes the end marker (R165). -/
theorem txInv_done (ht : TxInv pf t) (hstate : t.state = .data) (hend : t.byteIdx = t.len) :
    TxInv pf { t with state := .done } := by
  obtain ⟨-, -, hdata, -, hbyte, hlen⟩ := ht
  obtain ⟨-, -, hbit, hpar⟩ := hdata hstate
  exact ⟨nofun, nofun, nofun, fun _ => ⟨hend, hbit hend, hpar (hbit hend)⟩, hbyte, hlen⟩

/-- A data bit that is not the last of its byte's pairs (R166). -/
theorem txInv_countBit (hpf : LegalProfile pf) (ht : TxInv pf t) (hstate : t.state = .data) (par : Bool)
    (hmore : t.byteIdx < t.len) (hlt : t.bitIdx.toNat < pf[13].toNat)
    (hopen : ¬ ((t.bitIdx + 1).toNat = pf[13].toNat ∧ pf[14] = 0)) :
    TxInv pf { t with par := par, bitIdx := t.bitIdx + 1 } := by
  obtain ⟨⟨-, hbits⟩, -⟩ := hpf
  obtain ⟨-, -, -, -, hbyte, hlen⟩ := ht
  have hcnt : (t.bitIdx + 1).toNat = t.bitIdx.toNat + 1 := by bv_omega
  refine ⟨by simp [hstate], by simp [hstate], fun _ => ⟨?_, fun heq hzero => hopen ⟨heq, hzero⟩, ?_, ?_⟩,
    by simp [hstate], hbyte, hlen⟩
  · change (t.bitIdx + 1).toNat ≤ _
    omega
  · intro hend
    change t.byteIdx = t.len at hend
    bv_omega
  · intro hzero
    change t.bitIdx + 1 = 0 at hzero
    bv_omega

/-- The last pair of a byte moves on to the next (R166, R167). -/
theorem txInv_nextByte (hpf : LegalProfile pf) (hstate : t.state = .data) (hmore : t.byteIdx < t.len)
    (hlen : t.len.toNat ≤ 32) : TxInv pf (nextByte t) := by
  obtain ⟨⟨hbits, -⟩, -⟩ := hpf
  refine ⟨by simp [nextByte, hstate], by simp [nextByte, hstate],
    fun _ => ⟨Nat.zero_le _, fun h => ?_, fun _ => rfl, fun _ => rfl⟩, by simp [nextByte, hstate], ?_, hlen⟩
  · change 0 = _ at h
    omega
  · change (t.byteIdx + 1).toNat ≤ t.len.toNat
    bv_omega

end

theorem txData_txInv {s t : State} {p : Pair} (hpf : LegalProfile s.cfg) (ht : TxInv s.cfg s.tx)
    (hstate : s.tx.state = .data) (h : txData s = .ok (p, t)) : TxInv s.cfg t.tx := by
  have hlen : s.tx.len.toNat ≤ 32 := by
    obtain ⟨-, -, -, -, -, hlen⟩ := ht
    exact hlen
  obtain ⟨hend, -, rfl⟩ | ⟨hmore, hlt, hbit⟩ | ⟨hmore, -, hcheck⟩ := txData_ok h
  · exact txInv_done ht hstate hend
  · obtain ⟨b, -, -, -, rfl⟩ := txDataBit_ok hbit
    rw [setTx_tx]
    split
    · exact txInv_nextByte hpf hstate hmore hlen
    · next hopen => exact txInv_countBit hpf ht hstate _ hmore hlt hopen
  · obtain ⟨b, -, -, rfl⟩ := txCheckBit_ok hcheck
    exact txInv_nextByte hpf hstate hmore hlen

theorem txSync_txInv {s : State} (hpf : LegalProfile s.cfg) (ht : TxInv s.cfg s.tx)
    (hstate : s.tx.state = .sync) : TxInv s.cfg (txSync s).2.tx := by
  obtain ⟨hlt, heq⟩ | ⟨-, heq⟩ := txSync_cases s <;> rw [heq]
  · exact txInv_countSync hpf ht hstate hlt
  · exact txInv_startData hpf ht

theorem txStep_txInv {s t : State} {p : Pair} (hpf : LegalProfile s.cfg) (ht : TxInv s.cfg s.tx)
    (h : txStep s = .ok (p, t)) : TxInv s.cfg t.tx := by
  obtain ⟨-, -, rfl⟩ | ⟨hstate, hsync⟩ | ⟨hstate, hdata⟩ | ⟨-, -, rfl⟩ := txStep_ok h
  · exact ht
  · obtain rfl : t = (txSync s).2 := congrArg Prod.snd hsync
    exact txSync_txInv hpf ht hstate
  · exact txData_txInv hpf ht hstate hdata
  · exact txInv_initial s.cfg

/-- With no send begun a step changes nothing (R163). -/
theorem txStep_of_idle {s t : State} {p : Pair} (hidle : s.tx.state = .idle)
    (h : txStep s = .ok (p, t)) : t = s := by
  simp only [txStep, hidle, Except.ok.injEq, Prod.mk.injEq] at h
  exact h.2.symm

end Sys2Proof.Machine
end

section
/-! SUPPORT. Every step keeps the invariant: the change of each command does, and so do its response, an illegal
word and hardware reset. -/

namespace Sys2Proof.Machine

/-- A response is no frame event. -/
theorem inv_respond {s : State} (h : Inv s) (st : Status) (rd : Word) :
    Inv (s.emit (.response st rd)) := by
  obtain ⟨hfb, htb, hdiag, hout, hsessions⟩ := h
  exact ⟨hfb, htb, hdiag, sound_append hout rfl, hsessions⟩

theorem inv_resetAll {s : State} (h : Inv s) : Inv (resetAll s) := by
  obtain ⟨-, -, -, hout, -⟩ := h
  exact inv_of_isResetState (resetAll_isResetState s) hout

/-- While disabled the profile may be anything (10_state.md R26). -/
theorem inv_setCfg {s : State} (h : Inv s) (hdis : s.en = false) (pf : Profile) : Inv (s.setCfg pf) := by
  obtain ⟨hfb, htb, hdiag, hout, -, hdisabled⟩ := h
  exact ⟨hfb, htb, hdiag, hout, fun hen => by simp [hdis] at hen, hdisabled⟩

/-- A legal profile with every session at its initial values may be enabled (40_control.md R104). -/
theorem inv_enable {s : State} (h : Inv s) (hpf : LegalProfile s.cfg) :
    Inv (initSessions (s.setEn true)) := by
  obtain ⟨hfb, htb, hdiag, hout, -⟩ := h
  exact ⟨hfb, htb, hdiag, hout,
    fun _ => ⟨hpf, rxInv_initial s.frameBuf hpf, txInv_initial s.cfg, fun _ => rfl, nofun⟩, nofun⟩

theorem inv_disable {s : State} (h : Inv s) : Inv (initSessions (s.setEn false)) := by
  obtain ⟨hfb, htb, hdiag, hout, -⟩ := h
  exact ⟨hfb, htb, hdiag, hout, nofun, fun _ => ⟨rfl, rfl, rfl⟩⟩

theorem inv_memWrite_txBuf {s t : State} {a : Nat} {v : Byte} (h : Inv s)
    (hw : memWrite .txBuf a v s = .ok t) : Inv t := by
  obtain ⟨hfb, htb, hrest⟩ := h
  obtain ⟨ha, rfl⟩ := memWrite_ok hw
  exact ⟨hfb, wf_memPut ha htb, hrest⟩

theorem inv_setTx {s : State} (h : Inv s) (hen : s.en = true) {t : TxSession} (ht : TxInv s.cfg t) :
    Inv (s.setTx t) := by
  obtain ⟨hfb, htb, hdiag, hout, henabled, -⟩ := h
  obtain ⟨hpf, hrx, -, hsa⟩ := henabled hen
  exact ⟨hfb, htb, hdiag, hout, fun _ => ⟨hpf, hrx, ht, hsa⟩, fun hdis => by simp [hen] at hdis⟩

/-- Nothing is being sent while disabled. -/
theorem Inv.tx_idle {s : State} (h : Inv s) (hdis : s.en = false) : s.tx.state = .idle := by
  obtain ⟨-, -, -, -, -, hdisabled⟩ := h
  obtain ⟨-, htx, -⟩ := hdisabled hdis
  rw [htx]

theorem inv_txStep {s t : State} {p : Pair} (h : Inv s) (hstep : txStep s = .ok (p, t)) : Inv t := by
  cases hen : s.en with
  | true =>
    have hs := h.enabledInv hen
    rw [txStep_eq_setTx hstep]
    exact inv_setTx h hen (txStep_txInv hs.legal hs.tx hstep)
  | false =>
    rw [txStep_of_idle (h.tx_idle hen) hstep]
    exact h

/-- What each command changes keeps the invariant. -/
theorem inv_of_change {i : Instr} {s u : State} (h : Inv s) (hchange : Change s i u) : Inv u := by
  cases hchange with
  | none => exact h
  | reset => exact inv_resetAll h
  | cfgw hdis => exact inv_setCfg h hdis _
  | enable hpf => exact inv_enable h hpf
  | disable => exact inv_disable h
  | feed hen hfed => exact ((h.enabledInv hen).rxFeed hfed).inv
  | sample hen hsampled => exact ((h.enabledInv hen).saSample hsampled).inv
  | txload hwritten => exact inv_memWrite_txBuf h hwritten
  | txstart hen hlen => exact inv_setTx h hen (txInv_start s.cfg hlen)
  | txstep hstepped => exact inv_txStep h hstepped

theorem exec_keeps_inv {i : Instr} {s t : State} (h : Inv s) (hexec : exec i s = .next t) : Inv t := by
  obtain ⟨u, hchange, st, rd, rfl⟩ := exec_change hexec
  exact inv_respond (inv_of_change h hchange) st rd

/-- Settles O56, by what the host presents: nothing, hardware reset, a command, an illegal word. -/
theorem stepKeepsTheInvariant : Obligations.StepKeepsTheInvariant := by
  intro s t hinv hstep
  unfold step at hstep
  split at hstep
  · cases hstep
    exact hinv
  · next hnext =>
    cases hstep
    exact inv_resetAll (inv_of_nextInput hinv hnext)
  · next hnext =>
    have hinv' := inv_of_nextInput hinv hnext
    split at hstep
    · exact exec_keeps_inv hinv' hstep
    · rw [respond_next hstep]
      exact inv_respond hinv' _ _

end Sys2Proof.Machine
end

section
/-! SUPPORT. Receiving reads neither the transmit session nor the adapter (spec/41_receive.md R135,
spec/42_sample_adapter.md R156, spec/70_reset_and_hazards.md R205): every receive operation commutes with a
change of the state that it ignores. -/

namespace Sys2Proof.Machine

/-- A change of the state that leaves alone what receiving reads and commutes with what receiving writes. -/
structure IgnoredByRx (f : State → State) : Prop where
  cfg : ∀ s, (f s).cfg = s.cfg
  rx : ∀ s, (f s).rx = s.rx
  frameBuf : ∀ s, (f s).frameBuf = s.frameBuf
  diag : ∀ s, (f s).diag = s.diag
  frameEvent : ∀ s, frameEvent (f s) = frameEvent s
  setRx : ∀ s r, (f s).setRx r = f (s.setRx r)
  setFrameBuf : ∀ s m, (f s).setMem .frameBuf m = f (s.setMem .frameBuf m)
  setDiag : ∀ s d, (f s).setDiag d = f (s.setDiag d)
  emit : ∀ s e, (f s).emit e = f (s.emit e)

theorem setTx_ignoredByRx (τ : TxSession) : IgnoredByRx (·.setTx τ) := by
  constructor <;> intros <;> rfl

theorem setSa_ignoredByRx (a : Adapter) : IgnoredByRx (·.setSa a) := by
  constructor <;> intros <;> rfl

section
variable {f : State → State} (hf : IgnoredByRx f) (s : State)
include hf

theorem flush_ignores : flush (f s) = (flush s).map f := by
  simp only [flush, hf.rx, hf.frameEvent, hf.emit]
  split
  · rfl
  · split <;> rfl

theorem rxReset_ignores (c : ResetCause) : rxReset c (f s) = (rxReset c s).map f := by
  rw [rxReset, rxReset, flush_ignores hf]
  cases flush s with
  | ok s1 => simp only [Except.map, recordCause_eq, rxInit, hf.diag, hf.setDiag, hf.setRx]
  | error r => rfl

theorem rxByteDone_ignores : rxByteDone (f s) = (rxByteDone s).map f := by
  simp only [rxByteDone, memWrite, mem_frameBuf, hf.rx, hf.frameBuf, hf.setFrameBuf]
  by_cases hroom : s.rx.len.toNat < Config.bufBytes .frameBuf
  · simp only [if_pos hroom, hf.rx, hf.setRx, hf.cfg, rxReset_ignores hf]
    split <;> rfl
  · simp only [if_neg hroom]
    rfl

theorem rxSyncBit_ignores (b : Bool) : rxSyncBit b (f s) = (rxSyncBit b s).map f := by
  simp only [rxSyncBit, hf.rx, hf.cfg, hf.setRx, rxReset_ignores hf]
  split
  · split <;> rfl
  · rfl

theorem rxShiftBit_ignores (b : Bool) : rxShiftBit b (f s) = (rxShiftBit b s).map f := by
  simp only [rxShiftBit, hf.rx, hf.cfg, hf.setRx, rxByteDone_ignores hf]
  split <;> rfl

theorem rxCheckBit_ignores (b : Bool) : rxCheckBit b (f s) = (rxCheckBit b s).map f := by
  simp only [rxCheckBit, hf.rx, hf.cfg, rxByteDone_ignores hf, rxReset_ignores hf]
  split <;> rfl

theorem rxBit_ignores (b : Bool) : rxBit b (f s) = (rxBit b s).map f := by
  simp only [rxBit, rxDataBit, hf.rx, hf.cfg, rxShiftBit_ignores hf, rxCheckBit_ignores hf,
    rxSyncBit_ignores hf]
  split
  · split
    · rfl
    · split <;> rfl
  · rfl

theorem zeroVotes_ignores (d : Duration) : zeroVotes (f s) d = zeroVotes s d := by
  simp only [zeroVotes, hf.rx, hf.cfg]

theorem oneVotes_ignores (d : Duration) : oneVotes (f s) d = oneVotes s d := by
  simp only [oneVotes, hf.rx, hf.cfg]

theorem clearVotes_ignores : clearVotes (f s) = f (clearVotes s) := by
  simp only [clearVotes, hf.rx, hf.setRx]

theorem rxSpace_ignores (d : Duration) : rxSpace d (f s) = (rxSpace d s).map f := by
  simp only [rxSpace, hf.rx, zeroVotes_ignores hf, oneVotes_ignores hf, clearVotes_ignores hf,
    rxReset_ignores hf, rxBit_ignores hf]
  split
  · split <;> rfl
  · rfl

theorem rxFeed_ignores (d : Duration) (l : Level) : rxFeed d l (f s) = (rxFeed d l s).map f := by
  cases l with
  | mark => simp only [rxFeed, rxMark, hf.rx, hf.cfg, hf.setRx, Except.map]
  | space =>
    simp only [rxFeed, hf.cfg, rxReset_ignores hf, rxSpace_ignores hf]
    split <;> rfl

end

/-- But for the adapter's own fields, a sample is at most one edge event (spec/42_sample_adapter.md R156). -/
theorem saSample_feeds {timeout : Bool} {l : Level} {s t : State} (h : saSample timeout l s = .ok t) :
    ∃ u, (u = s ∨ ∃ d l', rxFeed d l' s = .ok u) ∧ t = u.setSa t.sa := by
  obtain ⟨-, rfl⟩ | ⟨-, -, -, rfl⟩ | ⟨-, -, -, hfeed⟩ | ⟨-, -, u, hfeed, rfl⟩ := saSample_ok h
  · exact ⟨s, .inl rfl, rfl⟩
  · exact ⟨s, .inl rfl, rfl⟩
  · rw [rxFeed_ignores (setSa_ignoredByRx _)] at hfeed
    cases hu : rxFeed (satInc s.sa.run) .space s with
    | ok u =>
      rw [hu] at hfeed
      cases hfeed
      exact ⟨u, .inr ⟨_, _, hu⟩, rfl⟩
    | error r =>
      rw [hu] at hfeed
      cases hfeed
  · exact ⟨u, .inr ⟨_, _, hfeed⟩, rfl⟩

end Sys2Proof.Machine
end

section
/-! SUPPORT. What a receive operation may store and show (spec/41_receive.md R131 to R136): it first brings the
session to a state that holds the bytes held before, or those and the byte just completed, and then leaves it
there or ends in one `rx_reset`, which flushes just those bytes. -/

namespace Sys2Proof.Machine

/-- `WholeByte s v`: the next bit completes the byte `v`, as its last data bit or as its check bit (R131,
R132). -/
inductive WholeByte (s : State) : Byte → Prop where
  | lastBit (b : Bool) (last : s.rx.bitCnt.toNat + 1 = s.cfg.bits.toNat) :
      WholeByte s (shiftIn s.cfg s.rx.acc s.rx.bitCnt.toNat b)
  | checked (due : s.rx.bitCnt.toNat = s.cfg.bits.toNat) : WholeByte s s.rx.acc

/-- `Collects s u`: from `s` to `u` the receive session moved on without showing anything, and `FRAMEBUF`
holds what it held, or also a completed byte at `rx_len` (R133). -/
inductive Collects (s : State) : State → Prop where
  | kept {r : RxSession} (len_eq : r.len = s.rx.len) : Collects s (s.setRx r)
  | stored {r : RxSession} {v : Byte} (whole : WholeByte s v) (room : s.rx.len.toNat < 32)
      (len_eq : r.len = s.rx.len + 1) :
      Collects s ((s.setMem .frameBuf (memPut s.rx.len.toNat v s.frameBuf)).setRx r)

/-- `Receives s t`: all that a receive operation can do on the way from `s` to `t`. -/
inductive Receives (s t : State) : Prop where
  | stays (collected : Collects s t)
  | resets {c : ResetCause} {u : State} (collected : Collects s u) (reset : rxReset c u = .ok t)

/-! ### Every receive operation does that -/

theorem Collects.refl (s : State) : Collects s s := .kept (r := s.rx) rfl

/-- The votes are no part of what is collected. -/
theorem Collects.of_clearVotes {s u : State} (h : Collects (clearVotes s) u) : Collects s u := by
  cases h with
  | kept hlen => exact .kept hlen
  | stored hwhole hroom hlen =>
    cases hwhole with
    | lastBit b hlast => exact .stored (.lastBit b hlast) hroom hlen
    | checked hdue => exact .stored (.checked hdue) hroom hlen

theorem Receives.of_clearVotes {s t : State} (h : Receives (clearVotes s) t) : Receives s t := by
  cases h with
  | stays hu => exact .stays hu.of_clearVotes
  | resets hu hreset => exact .resets hu.of_clearVotes hreset

theorem rxByteDone_receives {s t : State} {r : RxSession} (hlen : r.len = s.rx.len)
    (hwhole : WholeByte s r.acc) (h : rxByteDone (s.setRx r) = .ok t) : Receives s t := by
  obtain ⟨s2, rfl, hroom, hcases⟩ := rxByteDone_ok h
  simp only [setRx_rx, hlen] at hroom hcases
  have hstored := Collects.stored (r := { r with len := s.rx.len + 1, acc := 0, bitCnt := 0, par := false })
    hwhole hroom rfl
  obtain ⟨-, hreset⟩ | ⟨-, rfl⟩ := hcases
  · exact .resets hstored hreset
  · exact .stays hstored

theorem rxSyncBit_receives {b : Bool} {s t : State} (h : rxSyncBit b s = .ok t) : Receives s t := by
  obtain ⟨-, -, rfl⟩ | ⟨-, -, hreset⟩ | ⟨-, rfl⟩ := rxSyncBit_ok h
  · exact .stays (.kept rfl)
  · exact .resets (.refl s) hreset
  · exact .stays (.kept rfl)

theorem rxDataBit_receives {b : Bool} {s t : State} (h : rxDataBit b s = .ok t) : Receives s t := by
  obtain ⟨s1, rfl, hbit, ⟨hlast, -, hdone⟩ | ⟨-, rfl⟩⟩ | ⟨hdue, ⟨-, hdone⟩ | ⟨-, hreset⟩⟩ := rxDataBit_ok h
  · have hcnt : s.rx.bitCnt.toNat + 1 = s.cfg.bits.toNat := by bv_omega
    exact rxByteDone_receives (r := shiftedRx s.cfg s.rx b) rfl (.lastBit b hcnt) hdone
  · exact .stays (.kept rfl)
  · exact rxByteDone_receives (r := s.rx) rfl (.checked hdue) hdone
  · exact .resets (.refl s) hreset

theorem rxSpace_receives {d : Duration} {s t : State} (h : rxSpace d s = .ok t) : Receives s t := by
  obtain ⟨-, rfl⟩ | ⟨-, -, htie⟩ | ⟨-, -, ⟨-, hdata⟩ | ⟨-, hsync⟩⟩ := rxSpace_ok h
  · exact .stays (.refl _)
  · exact .of_clearVotes (.resets (.refl _) htie)
  · exact .of_clearVotes (rxDataBit_receives hdata)
  · exact .of_clearVotes (rxSyncBit_receives hsync)

theorem rxFeed_receives {d : Duration} {l : Level} {s t : State} (h : rxFeed d l s = .ok t) :
    Receives s t := by
  obtain ⟨-, rfl⟩ | ⟨-, -, hreset⟩ | ⟨-, -, hspace⟩ := rxFeed_ok h
  · exact .stays (.kept rfl)
  · exact .resets (.refl s) hreset
  · exact rxSpace_receives hspace

/-- A sample receives as an edge event does, and sets the adapter. -/
theorem saSample_receives {timeout : Bool} {l : Level} {s t : State} (h : saSample timeout l s = .ok t) :
    ∃ u, Receives s u ∧ OnlyReceive s u ∧ t = u.setSa t.sa := by
  obtain ⟨u, rfl | ⟨d, l', hfeed⟩, ht⟩ := saSample_feeds h
  · exact ⟨u, .stays (.refl u), rfl, ht⟩
  · exact ⟨u, rxFeed_receives hfeed, rxFeed_onlyReceive hfeed, ht⟩

/-! ### What that leaves of `FRAMEBUF` -/

theorem rxReset_frameBuf {c : ResetCause} {s t : State} (h : rxReset c s = .ok t) :
    t.frameBuf = s.frameBuf := by
  obtain ⟨s1, hflush, rfl⟩ := rxReset_ok h
  rw [recordCause_eq]
  obtain ⟨-, rfl⟩ | ⟨-, -, rfl⟩ := flush_ok hflush <;> rfl

theorem Collects.memGet_frameBuf {s u : State} (h : Collects s u) {a : Nat} (ha : a ≠ s.rx.len.toNat) :
    memGet a u.frameBuf = memGet a s.frameBuf := by
  cases h with
  | kept => rfl
  | stored => simp [ha]

theorem Receives.memGet_frameBuf {s t : State} (h : Receives s t) {a : Nat} (ha : a ≠ s.rx.len.toNat) :
    memGet a t.frameBuf = memGet a s.frameBuf := by
  cases h with
  | stays hu => exact hu.memGet_frameBuf ha
  | resets hu hreset => rw [rxReset_frameBuf hreset, hu.memGet_frameBuf ha]

/-! ### What it shows -/

/-- On the way from `s` to `t` the frame port showed nothing, or one frame of the bytes collected. -/
def ShowsAtMostOneFrame (s t : State) : Prop :=
  t.outputs = s.outputs
    ∨ ∃ u, Collects s u ∧ 1 ≤ u.rx.len.toNat ∧ t.outputs = s.outputs ++ [frameEvent u]

theorem Collects.outputs_eq {s u : State} (h : Collects s u) : u.outputs = s.outputs := by
  cases h <;> rfl

/-- The flush is all that a reset of the receive session shows. -/
theorem rxReset_outputs {c : ResetCause} {s t : State} (h : rxReset c s = .ok t) :
    t.outputs = s.outputs ∨ (1 ≤ s.rx.len.toNat ∧ t.outputs = s.outputs ++ [frameEvent s]) := by
  obtain ⟨s1, hflush, rfl⟩ := rxReset_ok h
  rw [recordCause_eq]
  obtain ⟨-, rfl⟩ | ⟨hheld, -, rfl⟩ := flush_ok hflush
  · exact .inl rfl
  · exact .inr ⟨hheld, rfl⟩

theorem Receives.showsAtMostOneFrame {s t : State} (h : Receives s t) : ShowsAtMostOneFrame s t := by
  cases h with
  | stays hu => exact .inl hu.outputs_eq
  | resets hu hreset =>
    rw [ShowsAtMostOneFrame, ← hu.outputs_eq]
    exact (rxReset_outputs hreset).imp id fun ⟨hheld, hout⟩ => ⟨_, hu, hheld, hout⟩

/-- Only an enabled `FEED` or `SAMPLE` shows anything before the response, and then at most one frame
(spec/20_memory.md R66). -/
theorem Change.shows {i : Instr} {s u : State} (h : Change s i u) :
    u.outputs = s.outputs ∨ (feedsRx i = true ∧ s.en = true ∧ ShowsAtMostOneFrame s u) := by
  cases h with
  | feed hen hfed => exact .inr ⟨rfl, hen, (rxFeed_receives hfed).showsAtMostOneFrame⟩
  | sample hen hsampled =>
    obtain ⟨w, hw, -, heq⟩ := saSample_receives hsampled
    rw [heq]
    exact .inr ⟨rfl, hen, hw.showsAtMostOneFrame⟩
  | txload hwritten =>
    obtain ⟨-, rfl⟩ := memWrite_ok hwritten
    exact .inl rfl
  | txstep hstepped =>
    rw [txStep_eq_setTx hstepped]
    exact .inl rfl
  | none | reset | cfgw | enable | disable | txstart => exact .inl rfl

/-- Settles O20: what a command shows before its response is what its change shows. -/
theorem oneResponseAtMostOneFrame : Obligations.OneResponseAtMostOneFrame := by
  intro i s t hexec
  obtain ⟨u, hchange, st, rd, rfl⟩ := exec_change hexec
  rw [emit_outputs]
  obtain hquiet | ⟨hrx, hen, hquiet | ⟨w, -, -, hframe⟩⟩ := hchange.shows
  · exact ⟨[], st, rd, by simp [hquiet], by simp, nofun, nofun⟩
  · exact ⟨[], st, rd, by simp [hquiet], by simp, nofun, nofun⟩
  · refine ⟨[frameEvent w], st, rd, by rw [hframe], Nat.le_refl 1, fun e he => ?_, fun _ => ⟨hrx, hen⟩⟩
    rw [List.mem_singleton.mp he]
    rfl

/-- A response is on an output port. -/
theorem OnlyReceive.emit {s t : State} (h : OnlyReceive s t) (e : PortEvent) : OnlyReceive s (t.emit e) :=
  congrArg (fun u : State => u.emit e) h

/-- Settles O36: `FEED` is one receive operation, and so is `SAMPLE` but for the adapter. -/
theorem receiveCommandsTouchOnlyReceive : Obligations.ReceiveCommandsTouchOnlyReceive := by
  refine fun s t => ⟨fun l d hexec => ?_, fun smp hexec => ?_⟩
  · obtain ⟨u, hchange, st, rd, rfl⟩ := exec_change hexec
    cases hchange with
    | none => exact ⟨rfl, fun _ _ => rfl⟩
    | feed _ hfed =>
      refine ⟨?_, fun a ha => (rxFeed_receives hfed).memGet_frameBuf ha⟩
      exact (rxFeed_onlyReceive hfed).emit _
  · obtain ⟨u, hchange, st, rd, rfl⟩ := exec_change hexec
    cases hchange with
    | none => exact ⟨rfl, fun _ _ => rfl⟩
    | sample _ hsampled =>
      obtain ⟨w, hw, hframe, heq⟩ := saSample_receives hsampled
      rw [heq]
      refine ⟨?_, fun a ha => hw.memGet_frameBuf ha⟩
      exact congrArg (fun v : State => v.setSa u.sa) (hframe.emit (.response st rd))

end Sys2Proof.Machine
end

section
/-! SUPPORT. The frame events of an enabled state of the invariant (spec/20_memory.md R64, R66,
spec/41_receive.md R136): what is collected never exceeds `MAXFRAME` bytes, each below 2^`BITS`. -/

namespace Sys2Proof.Machine

/-- A completed byte fits `BITS` bits, since the bits received so far fit their number. -/
theorem WholeByte.lt {s : State} {v : Byte} (h : WholeByte s v)
    (hacc : s.rx.acc.toNat < 2 ^ s.rx.bitCnt.toNat) : v.toNat < 2 ^ s.cfg.bits.toNat := by
  cases h with
  | lastBit b hlast => exact hlast ▸ shiftIn_lt b hacc
  | checked hdue => exact hdue ▸ hacc

theorem Collects.cfg_eq {s u : State} (h : Collects s u) : u.cfg = s.cfg := by
  cases h <;> rfl

/-- The held bytes are fewer than `MAXFRAME`, and a completed one at most fills the frame. -/
theorem Collects.len_le {s u : State} (h : Collects s u) (hs : RxInv s.cfg s.rx s.frameBuf) :
    u.rx.len.toNat ≤ s.cfg[17].toNat := by
  obtain ⟨-, -, -, -, -, -, hlen, -⟩ := hs
  cases h with
  | kept heq => exact heq ▸ hlen.le
  | stored _ hroom heq =>
    rw [setRx_rx, heq]
    bv_omega

/-- Every byte collected was written and fits `BITS` bits. -/
theorem Collects.memGet_fits {s u : State} (h : Collects s u) (hs : RxInv s.cfg s.rx s.frameBuf)
    {a : Nat} (ha : a < u.rx.len.toNat) :
    (memGet a u.frameBuf).any (fun v => decide (v.toNat < 2 ^ s.cfg[13].toNat)) := by
  obtain ⟨-, -, -, -, -, -, -, -, hacc, -, hbytes⟩ := hs
  cases h with
  | kept heq => exact hbytes a (heq ▸ ha)
  | stored hwhole hroom heq =>
    rw [setRx_rx, heq] at ha
    rw [setRx_frameBuf, setMem_frameBuf_frameBuf, memGet_memPut]
    split
    · exact decide_eq_true (hwhole.lt hacc)
    · exact hbytes a (by bv_omega)

/-- A written byte of `FRAMEBUF` reads as what was written. -/
theorem byteAt_frameBuf_lt {s : State} {a n : Nat}
    (h : (memGet a s.frameBuf).any (fun v => decide (v.toNat < n))) : (s.byteAt .frameBuf a).toNat < n := by
  rw [State.byteAt, mem_frameBuf]
  cases hget : memGet a s.frameBuf with
  | none => simp [hget] at h
  | some v => simpa [hget] using h

/-- Settles O37: the one frame a command may show is that of the bytes collected. -/
theorem frameEventsAreSound : Obligations.FrameEventsAreSound := by
  intro i s t hinv hexec ch n bytes hmem
  obtain ⟨u, hchange, st, rd, rfl⟩ := exec_change hexec
  rw [emit_outputs] at hmem
  obtain hquiet | ⟨-, hen, hquiet | ⟨w, hw, hheld, hframe⟩⟩ := hchange.shows
  · simp [hquiet] at hmem
  · simp [hquiet] at hmem
  · have hevent : .frame ch n bytes = frameEvent w := by simpa [hframe] using hmem
    obtain ⟨rfl, rfl, rfl⟩ := PortEvent.frame.inj hevent
    have hrx := (hinv.enabledInv hen).rx
    refine ⟨by rw [hw.cfg_eq]; rfl, hheld, hw.len_le hrx, by simp [State.bytesUpTo], fun v hv => ?_⟩
    obtain ⟨a, ha, rfl⟩ := List.mem_map.mp hv
    exact byteAt_frameBuf_lt (hw.memGet_fits hrx (List.mem_range.mp ha))

end Sys2Proof.Machine
end

section
/-! SUPPORT. What stays while it is in use (spec/20_memory.md R73): the profile while enabled, `TXBUF` while a
send is in progress. -/

namespace Sys2Proof.Machine

theorem OnlyReceive.cfg_eq {s t : State} (h : OnlyReceive s t) : t.cfg = s.cfg := by
  rw [h]

theorem OnlyReceive.txBuf_eq {s t : State} (h : OnlyReceive s t) : t.txBuf = s.txBuf := by
  rw [h]

/-- While enabled only `RESET` changes the profile: `CFGW` is refused. -/
theorem Change.cfg_eq {i : Instr} {s u : State} (h : Change s i u) (hne : i ≠ .reset) (hen : s.en = true) :
    u.cfg = s.cfg := by
  cases h with
  | reset => exact absurd rfl hne
  | cfgw hdis => simp [hen] at hdis
  | feed _ hfed => exact (rxFeed_onlyReceive hfed).cfg_eq
  | sample _ hsampled =>
    obtain ⟨w, -, hframe, heq⟩ := saSample_receives hsampled
    rw [heq, setSa_cfg, hframe.cfg_eq]
  | txload hwritten =>
    obtain ⟨-, rfl⟩ := memWrite_ok hwritten
    rfl
  | txstep hstepped => rw [txStep_eq_setTx hstepped, setTx_cfg]
  | none | enable | disable | txstart => rfl

/-- Only `RESET` and `TXLOAD` change `TXBUF`. -/
theorem Change.txBuf_eq {i : Instr} {s u : State} (h : Change s i u) (hne : i ≠ .reset)
    (hload : ∀ addr data, i ≠ .txload addr data) : u.txBuf = s.txBuf := by
  cases h with
  | reset => exact absurd rfl hne
  | feed _ hfed => exact (rxFeed_onlyReceive hfed).txBuf_eq
  | sample _ hsampled =>
    obtain ⟨w, -, hframe, heq⟩ := saSample_receives hsampled
    rw [heq, setSa_txBuf, hframe.txBuf_eq]
  | txload => exact absurd rfl (hload _ _)
  | txstep hstepped => rw [txStep_eq_setTx hstepped, setTx_txBuf]
  | none | cfgw | enable | disable | txstart => rfl

/-- While a send is in progress `TXLOAD` is refused (spec/43_transmit.md R160). -/
theorem execTxload_busy {addr : BitVec 8} {data : Byte} {s t : State} (hbusy : s.tx.state ≠ .idle)
    (h : execTxload addr data s = .next t) : t.txBuf = s.txBuf := by
  unfold execTxload at h
  rw [if_neg hbusy] at h
  split at h <;> rw [respond_next h, emit_txBuf]

/-- Settles O22: no change but that of `RESET` reaches the profile of an enabled machine, and none but that of
`TXLOAD` besides reaches `TXBUF`. -/
theorem profileAndPayloadAreStableInUse : Obligations.ProfileAndPayloadAreStableInUse := by
  intro i s t hexec hne
  obtain ⟨u, hchange, st, rd, rfl⟩ := exec_change hexec
  refine ⟨hchange.cfg_eq hne, fun hbusy => ?_⟩
  by_cases hload : ∃ addr data, i = .txload addr data
  · obtain ⟨addr, data, rfl⟩ := hload
    exact execTxload_busy hbusy hexec
  · exact hchange.txBuf_eq hne fun addr data heq => hload ⟨addr, data, heq⟩

end Sys2Proof.Machine
end

section
/-! SUPPORT. The receive and transmit sides do not interfere (spec/70_reset_and_hazards.md R205): a `FEED` does
not read the transmit session, a `TXSTEP` reads nothing that a `FEED` writes. -/

namespace Sys2Proof.Machine

/-- Two states that look alike to the transmit side. -/
structure SendAlike (s s' : State) : Prop where
  cfg : s'.cfg = s.cfg
  tx : s'.tx = s.tx
  txBuf : s'.txBuf = s.txBuf
  epoch : s'.epoch = s.epoch

section
variable {s s' : State} (h : SendAlike s s')
include h

theorem memRead_txBuf_alike (a : Nat) : memRead .txBuf a s' = memRead .txBuf a s := by
  simp only [memRead, State.byteAt, mem_txBuf, h.txBuf, h.epoch]

theorem txSync_alike : txSync s' = ((txSync s).1, s'.setTx (txSync s).2.tx) := by
  simp only [txSync, h.cfg, h.tx]
  split <;> rfl

theorem txDataBit_alike :
    txDataBit s' = (txDataBit s).map (Prod.map id fun t => s'.setTx t.tx) := by
  simp only [txDataBit, memRead_txBuf_alike h, h.cfg, h.tx]
  cases memRead .txBuf s.tx.byteIdx.toNat s <;> rfl

theorem txCheckBit_alike :
    txCheckBit s' = (txCheckBit s).map (Prod.map id fun t => s'.setTx t.tx) := by
  simp only [txCheckBit, h.cfg, h.tx]
  split <;> rfl

theorem txData_alike : txData s' = (txData s).map (Prod.map id fun t => s'.setTx t.tx) := by
  simp only [txData, h.cfg, h.tx, txDataBit_alike h, txCheckBit_alike h]
  split
  · rfl
  · split
    · rfl
    · split
      · rfl
      · split <;> rfl

theorem txStep_alike : txStep s' = (txStep s).map (Prod.map id fun t => s'.setTx t.tx) := by
  have hidle : s' = s'.setTx s.tx := by rw [← h.tx]; rfl
  simp only [txStep, h.cfg, h.tx, txSync_alike h, txData_alike h]
  cases s.tx.state with
  | idle => exact congrArg (fun t => Except.ok (idleMarker s.cfg, t)) hidle
  | sync | data | done => rfl

end

/-- `TXSTEP` answers the pair of its step and moves only the transmit session. -/
theorem execTxstep_next {s t : State} (h : execTxstep s = .next t) :
    ∃ p τ, txStep s = .ok (p, s.setTx τ) ∧ t = (s.setTx τ).emit (.response .ok (packPair p)) := by
  unfold execTxstep at h
  split at h
  · next p u hstep =>
    have hu := txStep_eq_setTx hstep
    exact ⟨p, u.tx, hu ▸ hstep, hu ▸ respond_next h⟩
  · cases h

/-- The step of one state is the step of every state that looks alike to the transmit side. -/
theorem execTxstep_alike {s s' : State} {p : Pair} {τ : TxSession} (h : SendAlike s s')
    (hstep : txStep s = .ok (p, s.setTx τ)) :
    execTxstep s' = .next ((s'.setTx τ).emit (.response .ok (packPair p))) := by
  rw [execTxstep, txStep_alike h, hstep]
  rfl

/-- What `FEED` does and answers does not depend on the transmit session. -/
theorem execFeed_setTx (l : Level) (d : Duration) (s : State) (τ : TxSession) :
    execFeed l d (s.setTx τ) = mapNext (·.setTx τ) (execFeed l d s) := by
  simp only [execFeed, setTx_en, rxFeed_ignores (setTx_ignoredByRx τ)]
  split
  · cases rxFeed d l s <;> rfl
  · rfl

/-- Settles O54: `TXSTEP` moves the transmit session to `τ` and answers the same in either order; `FEED` shows
the same `x` in either order (O21) and leaves `τ` alone. -/
theorem feedAndTxstepCommute : Obligations.FeedAndTxstepCommute := by
  intro s a b c e l d ha hb hc he
  obtain ⟨hframe, -⟩ := (receiveCommandsTouchOnlyReceive s a).1 l d ha
  have halike : SendAlike s a := by constructor <;> rw [hframe]
  have hinputs : a.inputs = s.inputs := by rw [hframe]
  obtain ⟨p, τ, hstep, rfl⟩ := execTxstep_next hc
  obtain rfl : _ = b := Host.Outcome.next.inj ((execTxstep_alike halike hstep).symm.trans hb)
  obtain ⟨x, hx, hfeed⟩ := outputsAndInputsDoNotMatter (.feed l d) s a
    (s.outputs ++ [.response .ok (packPair p)]) s.inputs ha
  have hafter := (execFeed_setTx l d _ τ).trans (congrArg (mapNext (·.setTx τ)) hfeed)
  obtain rfl : _ = e := Host.Outcome.next.inj (hafter.symm.trans he)
  refine ⟨?_, x, [.response .ok (packPair p)], ?_, rfl⟩
  · rw [← hinputs]
    rfl
  · simp [hx]

end Sys2Proof.Machine
end

section
/-! SUPPORT. Encoding and decoding (spec/30_encoding.md R81 to R84): the words of each format are the words
with the format's fields; so decoding inverts encoding both ways, and a row's words are those its mask and
match select. -/

namespace Sys2Proof

/-! ### Fields of a word -/

theorem field_whole (w : Word) : field w 0 32 = w := BitVec.extractLsb'_eq_self

/-- A field is laid out as `x` before `y` exactly when its high part is `x` and its low part is `y`. -/
theorem field_eq_append_iff (w : Word) (lo : Nat) {n m : Nat} (x : BitVec n) (y : BitVec m) :
    field w lo (n + m) = x ++ y ↔ field w (lo + m) n = x ∧ field w lo m = y := by
  have hsplit : field w (lo + m) n ++ field w lo m = field w lo (n + m) :=
    BitVec.extractLsb'_append_extractLsb'_eq_extractLsb' rfl
  rw [← hsplit]
  constructor
  · intro h
    have hhigh := congrArg (BitVec.extractLsb' m n) h
    have hlow := congrArg (BitVec.extractLsb' 0 m) h
    simpa only [BitVec.extractLsb'_append_eq_left, BitVec.extractLsb'_append_eq_right] using
      And.intro hhigh hlow
  · rintro ⟨rfl, rfl⟩
    rfl

theorem field_and (w v : Word) (lo n : Nat) : field (w &&& v) lo n = field w lo n &&& field v lo n :=
  BitVec.extractLsb'_and

theorem field_eq_ofBool_iff (w : Word) (lo : Nat) (b : Bool) :
    field w lo 1 = BitVec.ofBool b ↔ w.getLsbD lo = b := by
  rw [BitVec.getLsbD_eq_extractLsb', field]
  generalize w.extractLsb' lo 1 = v
  revert v
  cases b <;> decide

/-! ### The words of a format, by their fields (spec/30_encoding.md R81) -/

theorem eq_formatZ_iff (w : Word) (op : BitVec 4) :
    w = formatZ op ↔ field w 28 4 = op ∧ field w 0 28 = 0 :=
  calc w = formatZ op
    _ ↔ field w 0 (4 + 28) = op ++ 0#28 := by rw [field_whole]; rfl
    _ ↔ _ := field_eq_append_iff ..

theorem eq_formatC_iff (w : Word) (op : BitVec 4) (idx : BitVec 5) (val : BitVec 16) :
    w = formatC op idx val ↔
      field w 28 4 = op ∧ field w 21 7 = 0 ∧ field w 16 5 = idx ∧ field w 0 16 = val :=
  calc w = formatC op idx val
    _ ↔ field w 0 (4 + 7 + 5 + 16) = op ++ 0#7 ++ idx ++ val := by rw [field_whole]; rfl
    _ ↔ _ := by simp only [field_eq_append_iff, and_assoc]; rfl

theorem eq_formatF_iff (w : Word) (op : BitVec 4) (lvl : Bool) (dur : BitVec 16) :
    w = formatF op lvl dur ↔
      field w 28 4 = op ∧ field w 17 11 = 0 ∧ w.getLsbD 16 = lvl ∧ field w 0 16 = dur :=
  calc w = formatF op lvl dur
    _ ↔ field w 0 (4 + 11 + 1 + 16) = op ++ 0#11 ++ BitVec.ofBool lvl ++ dur := by rw [field_whole]; rfl
    _ ↔ _ := by simp only [field_eq_append_iff, field_eq_ofBool_iff, and_assoc]; rfl

theorem eq_formatS_iff (w : Word) (op : BitVec 4) (b : BitVec 8) :
    w = formatS op b ↔ field w 28 4 = op ∧ field w 8 20 = 0 ∧ field w 0 8 = b :=
  calc w = formatS op b
    _ ↔ field w 0 (4 + 20 + 8) = op ++ 0#20 ++ b := by rw [field_whole]; rfl
    _ ↔ _ := by simp only [field_eq_append_iff, and_assoc]; rfl

theorem eq_formatB_iff (w : Word) (op : BitVec 4) (addr data : BitVec 8) :
    w = formatB op addr data ↔
      field w 28 4 = op ∧ field w 24 4 = 0 ∧ field w 16 8 = addr ∧ field w 8 8 = 0 ∧ field w 0 8 = data :=
  calc w = formatB op addr data
    _ ↔ field w 0 (4 + 4 + 8 + 8 + 8) = op ++ 0#4 ++ addr ++ 0#8 ++ data := by rw [field_whole]; rfl
    _ ↔ _ := by simp only [field_eq_append_iff, and_assoc]; rfl

/-! ### Decoding inverts encoding -/

theorem levelOfBit_bit (l : Level) : levelOfBit l.bit = l := by cases l <;> rfl

theorem bit_levelOfBit (b : Bool) : (levelOfBit b).bit = b := by cases b <;> rfl

/-- The reserved bits are all 0 when a command is decoded (spec/30_encoding.md R91). -/
theorem unlessReserved_eq_ok {z : Bool} {i j : Instr} (h : unlessReserved z i = .ok j) :
    z = true ∧ i = j := by
  cases z with
  | true => exact ⟨rfl, Except.ok.inj h⟩
  | false => cases h

theorem opcode_eq_ofNat {w : Word} {k : Nat} (h : (field w 28 4).toNat = k) :
    field w 28 4 = BitVec.ofNat 4 k := by
  rw [← h, BitVec.ofNat_toNat, BitVec.setWidth_eq]

/-- A word that decodes to a command has the command's opcode and operands and no other bit set. -/
theorem encode_of_decode {w : Word} {i : Instr} (h : decode w = .ok i) : encode i = w := by
  symm
  unfold decode at h
  split at h
  case h_13 => cases h
  all_goals
    rename_i hop
    replace hop := opcode_eq_ofNat hop
    obtain ⟨hres, rfl⟩ := unlessReserved_eq_ok h
    simp only [Bool.and_eq_true, beq_iff_eq] at hres
  · exact (eq_formatZ_iff _ _).mpr ⟨hop, hres⟩
  · exact (eq_formatZ_iff _ _).mpr ⟨hop, hres⟩
  · exact (eq_formatC_iff _ _ _ _).mpr ⟨hop, hres, rfl, rfl⟩
  · exact (eq_formatC_iff _ _ _ _).mpr ⟨hop, hres.1, rfl, hres.2⟩
  · exact (eq_formatZ_iff _ _).mpr ⟨hop, hres⟩
  · exact (eq_formatZ_iff _ _).mpr ⟨hop, hres⟩
  · exact (eq_formatF_iff _ _ _ _).mpr ⟨hop, hres, (bit_levelOfBit _).symm, rfl⟩
  · exact (eq_formatS_iff _ _ _).mpr ⟨hop, hres, rfl⟩
  · exact (eq_formatB_iff _ _ _ _).mpr ⟨hop, hres.1, rfl, hres.2, rfl⟩
  · exact (eq_formatS_iff _ _ _).mpr ⟨hop, hres, rfl⟩
  · exact (eq_formatZ_iff _ _).mpr ⟨hop, hres⟩
  · exact (eq_formatC_iff _ _ _ _).mpr ⟨hop, hres.1, rfl, hres.2⟩

theorem fields_formatZ (op : BitVec 4) :
    field (formatZ op) 28 4 = op ∧ field (formatZ op) 0 28 = 0 :=
  (eq_formatZ_iff _ op).mp rfl

theorem fields_formatC (op : BitVec 4) (idx : BitVec 5) (val : BitVec 16) :
    field (formatC op idx val) 28 4 = op ∧ field (formatC op idx val) 21 7 = 0
      ∧ field (formatC op idx val) 16 5 = idx ∧ field (formatC op idx val) 0 16 = val :=
  (eq_formatC_iff _ op idx val).mp rfl

theorem fields_formatF (op : BitVec 4) (lvl : Bool) (dur : BitVec 16) :
    field (formatF op lvl dur) 28 4 = op ∧ field (formatF op lvl dur) 17 11 = 0
      ∧ (formatF op lvl dur).getLsbD 16 = lvl ∧ field (formatF op lvl dur) 0 16 = dur :=
  (eq_formatF_iff _ op lvl dur).mp rfl

theorem fields_formatS (op : BitVec 4) (b : BitVec 8) :
    field (formatS op b) 28 4 = op ∧ field (formatS op b) 8 20 = 0 ∧ field (formatS op b) 0 8 = b :=
  (eq_formatS_iff _ op b).mp rfl

theorem fields_formatB (op : BitVec 4) (addr data : BitVec 8) :
    field (formatB op addr data) 28 4 = op ∧ field (formatB op addr data) 24 4 = 0
      ∧ field (formatB op addr data) 16 8 = addr ∧ field (formatB op addr data) 8 8 = 0
      ∧ field (formatB op addr data) 0 8 = data :=
  (eq_formatB_iff _ op addr data).mp rfl

theorem decode_encode (i : Instr) : decode (encode i) = .ok i := by
  cases i with
  | nop | reset | enable | disable | txstep => simp [decode, encode, unlessReserved, fields_formatZ]
  | cfgw | cfgr | strd => simp [decode, encode, unlessReserved, fields_formatC]
  | feed =>
    simp [decode, encode, unlessReserved, fields_formatF, levelOfBit_bit, -BitVec.getLsbD_eq_getElem]
  | sample | txstart => simp [decode, encode, unlessReserved, fields_formatS]
  | txload => simp [decode, encode, unlessReserved, fields_formatB]

theorem decode_eq_ok_iff (w : Word) (i : Instr) : decode w = .ok i ↔ w = encode i :=
  ⟨fun h => (encode_of_decode h).symm, fun h => h ▸ decode_encode i⟩

/-- Settles O1, format by format. -/
theorem decodeOfEncodeIsTheCommand : Obligations.DecodeOfEncodeIsTheCommand :=
  decode_encode

/-- Settles O2, arm by arm of the decoder. -/
theorem encodeOfDecodedIsTheWord : Obligations.EncodeOfDecodedIsTheWord :=
  fun _ _ => encode_of_decode

/-! ### Match and mask (spec/30_encoding.md R83) -/

theorem field_masked_ones {m : Word} {lo n : Nat} (w : Word) (h : field m lo n = BitVec.allOnes n) :
    field (w &&& m) lo n = field w lo n := by
  rw [field_and, h, BitVec.and_allOnes]

theorem field_masked_zero {m : Word} {lo n : Nat} (w : Word) (h : field m lo n = 0) :
    field (w &&& m) lo n = 0 := by
  rw [field_and, h]
  exact BitVec.and_zero

theorem eq_formatZ_iff_masked (w : Word) (op : BitVec 4) :
    w = formatZ op ↔ w &&& 0xFFFFFFFF#32 = formatZ op := by
  simp (disch := decide) only [eq_formatZ_iff, field_masked_ones]

theorem exists_eq_formatC_iff_masked (w : Word) (op : BitVec 4) :
    (∃ idx val, w = formatC op idx val) ↔ w &&& 0xFFE00000#32 = formatC op 0 0 := by
  simp (disch := decide) only [eq_formatC_iff, field_masked_ones, field_masked_zero]
  simp

/-- Format I is format C with the value bits reserved. -/
theorem exists_eq_formatI_iff_masked (w : Word) (op : BitVec 4) :
    (∃ idx, w = formatC op idx 0) ↔ w &&& 0xFFE0FFFF#32 = formatC op 0 0 := by
  simp (disch := decide) only [eq_formatC_iff, field_masked_ones, field_masked_zero]
  simp

theorem exists_eq_formatF_iff_masked (w : Word) (op : BitVec 4) :
    (∃ (lvl : Level) (dur : BitVec 16), w = formatF op lvl.bit dur) ↔ w &&& 0xFFFE0000#32 = formatF op false 0 := by
  simp (disch := decide) only [eq_formatF_iff, field_masked_ones, field_masked_zero]
  have hbit : ∃ lvl : Level, w.getLsbD 16 = lvl.bit := ⟨levelOfBit _, (bit_levelOfBit _).symm⟩
  simp [hbit, -BitVec.getLsbD_eq_getElem]

theorem exists_eq_formatS_iff_masked (w : Word) (op : BitVec 4) :
    (∃ b, w = formatS op b) ↔ w &&& 0xFFFFFF00#32 = formatS op 0 := by
  simp (disch := decide) only [eq_formatS_iff, field_masked_ones, field_masked_zero]
  simp

theorem exists_eq_formatB_iff_masked (w : Word) (op : BitVec 4) :
    (∃ addr data, w = formatB op addr data) ↔ w &&& 0xFF00FF00#32 = formatB op 0 0 := by
  simp (disch := decide) only [eq_formatB_iff, field_masked_ones, field_masked_zero]
  simp

/-- Settles O3: decoding to a row's command is being one of its encodings, which the row's mask and match
select. -/
theorem decodeAgreesWithMatchAndMask : Obligations.DecodeAgreesWithMatchAndMask := by
  intro w
  simp only [decode_eq_ok_iff]
  exact ⟨eq_formatZ_iff_masked w _, eq_formatZ_iff_masked w _, exists_eq_formatC_iff_masked w _,
    exists_eq_formatI_iff_masked w _, eq_formatZ_iff_masked w _, eq_formatZ_iff_masked w _,
    exists_eq_formatF_iff_masked w _, exists_eq_formatS_iff_masked w _, exists_eq_formatB_iff_masked w _,
    exists_eq_formatS_iff_masked w _, eq_formatZ_iff_masked w _, exists_eq_formatI_iff_masked w _⟩

end Sys2Proof
end

section
/-! SUPPORT. Illegal words (spec/30_encoding.md R90, R91): a word whose opcode or reserved bits no command's
encoding has is decoded to none, and the step refuses it. -/

namespace Sys2Proof.Machine

theorem opcode_toNat (w : Word) : (field w 28 4).toNat = w.toNat / 2 ^ 28 := by
  have hw := w.isLt
  rw [field, BitVec.extractLsb'_toNat, Nat.shiftRight_eq_div_pow]
  omega

/-- The family `EncodedOpcode` for all twelve commands at once. -/
theorem opcode_encode (i : Instr) : field (encode i) 28 4 = opcodeOf i := by
  cases i with
  | nop => exact Laws.EncodedOpcode.nop
  | reset => exact Laws.EncodedOpcode.reset
  | cfgw idx val => exact Laws.EncodedOpcode.cfgw idx val
  | cfgr idx => exact Laws.EncodedOpcode.cfgr idx
  | enable => exact Laws.EncodedOpcode.enable
  | disable => exact Laws.EncodedOpcode.disable
  | feed lvl dur => exact Laws.EncodedOpcode.feed lvl dur
  | sample smp => exact Laws.EncodedOpcode.sample smp
  | txload addr data => exact Laws.EncodedOpcode.txload addr data
  | txstart len => exact Laws.EncodedOpcode.txstart len
  | txstep => exact Laws.EncodedOpcode.txstep
  | strd idx => exact Laws.EncodedOpcode.strd idx

theorem opcodeOf_lt (i : Instr) : (opcodeOf i).toNat < 0xC := by
  cases i <;> simp [opcodeOf]

/-- If a mask covers the bits `r` and the match has none of them, no word of that row has any. -/
theorem and_eq_zero_of_masked {w m v r : Word} (hw : w &&& m = v) (hcover : m &&& r = r)
    (hv : v &&& r = 0) : w &&& r = 0 := by
  rw [← hcover, ← BitVec.and_assoc, hw, hv]

/-- Every row's mask covers the bits its format reserves, and its match has none of them. -/
theorem encode_and_reservedBits (i : Instr) : encode i &&& reservedBits (opcodeOf i).toNat = 0 := by
  cases i with
  | nop | reset | enable | disable | txstep =>
    exact and_eq_zero_of_masked (r := 0x0FFFFFFF#32) ((eq_formatZ_iff_masked _ _).mp rfl)
      (by decide) (by decide)
  | cfgw idx val =>
    exact and_eq_zero_of_masked (r := 0x0FE00000#32) ((exists_eq_formatC_iff_masked _ _).mp ⟨idx, val, rfl⟩)
      (by decide) (by decide)
  | cfgr idx | strd idx =>
    exact and_eq_zero_of_masked (r := 0x0FE0FFFF#32) ((exists_eq_formatI_iff_masked _ _).mp ⟨idx, rfl⟩)
      (by decide) (by decide)
  | feed lvl dur =>
    exact and_eq_zero_of_masked (r := 0x0FFE0000#32) ((exists_eq_formatF_iff_masked _ _).mp ⟨lvl, dur, rfl⟩)
      (by decide) (by decide)
  | sample b | txstart b =>
    exact and_eq_zero_of_masked (r := 0x0FFFFF00#32) ((exists_eq_formatS_iff_masked _ _).mp ⟨b, rfl⟩)
      (by decide) (by decide)
  | txload addr data =>
    exact and_eq_zero_of_masked (r := 0x0F00FF00#32)
      ((exists_eq_formatB_iff_masked _ _).mp ⟨addr, data, rfl⟩) (by decide) (by decide)

/-- A word that is no command's encoding is answered `ILLEGAL` (spec/40_control.md R100). -/
theorem step_of_not_encoding {s : State} {w : Word} {rest : List PortInput}
    (hnext : s.inputs = .command w :: rest) (hw : ∀ i, w ≠ encode i) :
    step s = .next (answered .illegal 0 { s with inputs := rest }) := by
  cases hdec : decode w with
  | ok i => exact absurd ((decode_eq_ok_iff w i).mp hdec) (hw i)
  | error e =>
    simp only [step, nextInput_cons hnext, hdec]
    rfl

/-- Settles O7: no command has an opcode of 0xC or more. -/
theorem reservedOpcodeAnswersIllegal : Obligations.ReservedOpcodeAnswersIllegal := by
  intro s w rest hnext hop
  refine step_of_not_encoding hnext ?_
  rintro i rfl
  rw [← opcode_toNat, opcode_encode] at hop
  exact absurd hop (Nat.not_le.mpr (opcodeOf_lt i))

/-- Settles O8: no command's encoding has a bit its format reserves. The bound on the opcode is not needed:
from 0xC up every word is illegal. -/
theorem reservedBitAnswersIllegal : Obligations.ReservedBitAnswersIllegal := by
  intro s w rest hnext _ hbits
  refine step_of_not_encoding hnext ?_
  rintro i rfl
  rw [← opcode_toNat, opcode_encode] at hbits
  exact hbits (encode_and_reservedBits i)

end Sys2Proof.Machine
end

section
/-! SUPPORT. What a command may answer (spec/30_encoding.md R93, spec/60_exceptions.md R181): `OK` after
whatever it did, or a refusal that has done nothing. -/

namespace Sys2Proof.Machine

/-- `OkOrRefused s a`: run in `s`, a command answers `a`: `OK` in some state with some data, a refusal of the
state `s` itself, or a fault, which is no answer. -/
inductive OkOrRefused (s : State) : Answer → Prop where
  | ok (u : State) (rd : Word) : OkOrRefused s (respond .ok rd u)
  | refused (st : Status) : OkOrRefused s (refuse st s)
  | fault (f : Fault) : OkOrRefused s (.fault f)

theorem complete_okOrRefused (s : State) (r : Except Fault State) : OkOrRefused s (complete r) := by
  cases r with
  | ok u => exact .ok u 0
  | error f => exact .fault f

theorem execCfgw_okOrRefused (idx : BitVec 5) (val : Duration) (s : State) :
    OkOrRefused s (execCfgw idx val s) := by
  unfold execCfgw
  split
  · exact .refused .badRange
  · split
    · exact .refused .locked
    · exact .ok _ 0

theorem execCfgr_okOrRefused (idx : BitVec 5) (s : State) : OkOrRefused s (execCfgr idx s) := by
  unfold execCfgr
  split
  · exact .refused .badRange
  · exact .ok s _

theorem execEnable_okOrRefused (s : State) : OkOrRefused s (execEnable s) := by
  unfold execEnable
  split
  · exact .refused .locked
  · split
    · exact .ok _ 0
    · exact .refused .badProfile

theorem execDisable_okOrRefused (s : State) : OkOrRefused s (execDisable s) := by
  unfold execDisable
  split
  · exact .ok _ 0
  · exact .refused .notEnabled

theorem execFeed_okOrRefused (l : Level) (d : Duration) (s : State) : OkOrRefused s (execFeed l d s) := by
  unfold execFeed
  split
  · exact complete_okOrRefused s _
  · exact .refused .notEnabled

theorem sampleWith_okOrRefused (timeout : Bool) (smp : Byte) (s : State) :
    OkOrRefused s (sampleWith timeout smp s) := by
  unfold sampleWith
  split
  · exact complete_okOrRefused s _
  · exact .refused .notEnabled

theorem execTxload_okOrRefused (addr : BitVec 8) (data : Byte) (s : State) :
    OkOrRefused s (execTxload addr data s) := by
  unfold execTxload
  split
  · split
    · exact complete_okOrRefused s _
    · exact .refused .txBusy
  · exact .refused .badRange

theorem execTxstart_okOrRefused (len : BitVec 8) (s : State) : OkOrRefused s (execTxstart len s) := by
  unfold execTxstart
  split
  · split
    · split
      · exact .ok _ 0
      · exact .refused .txBusy
    · exact .refused .notEnabled
  · exact .refused .badRange

theorem execTxstep_okOrRefused (s : State) : OkOrRefused s (execTxstep s) := by
  unfold execTxstep
  split
  · exact .ok _ _
  · exact .fault _

theorem execStrd_okOrRefused (idx : BitVec 5) (s : State) : OkOrRefused s (execStrd idx s) := by
  unfold execStrd
  split
  · exact .refused .badRange
  · exact .ok s _

/-- Every command answers `OK`, or refuses and has changed nothing. -/
theorem exec_okOrRefused (i : Instr) (s : State) : OkOrRefused s (exec i s) := by
  cases i with
  | nop => exact .ok s 0
  | reset => exact .ok (resetAll s) 0
  | cfgw idx val => exact execCfgw_okOrRefused idx val s
  | cfgr idx => exact execCfgr_okOrRefused idx s
  | enable => exact execEnable_okOrRefused s
  | disable => exact execDisable_okOrRefused s
  | feed l d => exact execFeed_okOrRefused l d s
  | sample smp => exact sampleWith_okOrRefused Config.saIdleTimeout smp s
  | txload addr data => exact execTxload_okOrRefused addr data s
  | txstart len => exact execTxstart_okOrRefused len s
  | txstep => exact execTxstep_okOrRefused s
  | strd idx => exact execStrd_okOrRefused idx s

theorem getLast?_emit (s : State) (e : PortEvent) : (s.emit e).outputs.getLast? = some e := by
  simp

/-- Settles O19: the last output is the command's own response, and one that is not `OK` is a refusal's. -/
theorem refusedCommandChangesNothing : Obligations.RefusedCommandChangesNothing := by
  intro i s t st rdata hexec hlast hne
  have hanswer := exec_okOrRefused i s
  rw [hexec] at hanswer
  cases hanswer with
  | ok u rd =>
    rw [getLast?_emit] at hlast
    cases hlast
    exact absurd rfl hne
  | refused st' =>
    rw [getLast?_emit] at hlast
    cases hlast
    exact ⟨rfl, rfl⟩

end Sys2Proof.Machine
end

section
/-! SUPPORT. How the two state registers move (spec/40_control.md R109): the receive operations under `FEED` and
`SAMPLE`, the transmit session's own steps, the initialisers, and nothing else. -/

namespace Sys2Proof.Machine

/-! ### `rx_state` -/

/-- `rx_state` is where it was, or fell back to `Unsynced`. -/
def StaysOrDrops (s t : State) : Prop :=
  t.rx.state = s.rx.state ∨ t.rx.state = .unsynced

theorem rxReset_staysOrDrops {c : ResetCause} {u t : State} (s : State) (h : rxReset c u = .ok t) :
    StaysOrDrops s t := by
  obtain ⟨u1, -, rfl⟩ := rxReset_ok h
  exact .inr rfl

theorem rxByteDone_staysOrDrops {s t : State} (h : rxByteDone s = .ok t) : StaysOrDrops s t := by
  obtain ⟨s2, rfl, -, ⟨-, hreset⟩ | ⟨-, rfl⟩⟩ := rxByteDone_ok h
  · exact rxReset_staysOrDrops s hreset
  · exact .inl rfl

theorem rxDataBit_staysOrDrops {b : Bool} {s t : State} (h : rxDataBit b s = .ok t) :
    StaysOrDrops s t := by
  obtain ⟨s1, rfl, -, ⟨-, -, hdone⟩ | ⟨-, rfl⟩⟩ | ⟨-, ⟨-, hdone⟩ | ⟨-, hreset⟩⟩ := rxDataBit_ok h
  · exact (rxByteDone_staysOrDrops hdone :)
  · exact .inl rfl
  · exact rxByteDone_staysOrDrops hdone
  · exact rxReset_staysOrDrops s hreset

/-- In `Synced` every decoded bit is a data bit or a check bit (spec/41_receive.md R128). -/
theorem rxSpace_staysOrDrops {d : Duration} {s t : State} (hsynced : s.rx.state = .synced)
    (h : rxSpace d s = .ok t) : StaysOrDrops s t := by
  obtain ⟨-, rfl⟩ | ⟨-, -, htie⟩ | ⟨-, -, ⟨-, hdata⟩ | ⟨hnot, -⟩⟩ := rxSpace_ok h
  · exact .inl rfl
  · exact rxReset_staysOrDrops s htie
  · exact (rxDataBit_staysOrDrops hdata :)
  · exact absurd hsynced hnot

theorem rxFeed_staysOrDrops {d : Duration} {l : Level} {s t : State} (hsynced : s.rx.state = .synced)
    (h : rxFeed d l s = .ok t) : StaysOrDrops s t := by
  obtain ⟨-, rfl⟩ | ⟨-, -, hreset⟩ | ⟨-, -, hspace⟩ := rxFeed_ok h
  · exact .inl rfl
  · exact rxReset_staysOrDrops s hreset
  · exact rxSpace_staysOrDrops hsynced hspace

theorem saSample_staysOrDrops {timeout : Bool} {l : Level} {s t : State}
    (hsynced : s.rx.state = .synced) (h : saSample timeout l s = .ok t) : StaysOrDrops s t := by
  obtain ⟨u, rfl | ⟨d, l', hfeed⟩, ht⟩ := saSample_feeds h <;> rw [ht]
  · exact .inl rfl
  · exact (rxFeed_staysOrDrops hsynced hfeed :)

/-- The commands that run the initialisers (R107, R104, R105). -/
def InitsSessions (i : Instr) : Prop := i = .reset ∨ i = .enable ∨ i = .disable

/-- A command leaves `rx_state` alone, initialises it, or is a `FEED` or `SAMPLE`, by which a synchronised
session stays so or is dropped. -/
theorem Change.rxState {i : Instr} {s u : State} (h : Change s i u) :
    u.rx.state = s.rx.state
      ∨ (InitsSessions i ∧ u.rx.state = .unsynced)
      ∨ (feedsRx i = true ∧ (s.rx.state = .synced → StaysOrDrops s u)) := by
  cases h with
  | reset => exact .inr (.inl ⟨.inl rfl, rfl⟩)
  | enable => exact .inr (.inl ⟨.inr (.inl rfl), rfl⟩)
  | disable => exact .inr (.inl ⟨.inr (.inr rfl), rfl⟩)
  | feed _ hfed => exact .inr (.inr ⟨rfl, fun hsynced => rxFeed_staysOrDrops hsynced hfed⟩)
  | sample _ hsampled => exact .inr (.inr ⟨rfl, fun hsynced => saSample_staysOrDrops hsynced hsampled⟩)
  | txload hwritten =>
    obtain ⟨-, rfl⟩ := memWrite_ok hwritten
    exact .inl rfl
  | txstep hstepped =>
    rw [txStep_eq_setTx hstepped]
    exact .inl rfl
  | none | cfgw | txstart => exact .inl rfl

/-! ### `tx_state` -/

/-- The edges of `tx_state` under `TXSTEP` (R109). -/
def TxEdge (a b : TxState) : Prop :=
  (a = .sync ∧ b = .data) ∨ (a = .data ∧ b = .done) ∨ (a = .done ∧ b = .idle)

/-- Within `Data` only the end marker moves `tx_state`. -/
theorem txData_state {s t : State} {p : Pair} (h : txData s = .ok (p, t)) :
    t.tx.state = s.tx.state ∨ t.tx.state = .done := by
  obtain ⟨-, -, rfl⟩ | ⟨-, -, hbit⟩ | ⟨-, -, hcheck⟩ := txData_ok h
  · exact .inr rfl
  · obtain ⟨b, -, -, -, rfl⟩ := txDataBit_ok hbit
    rw [setTx_tx]
    split <;> exact .inl rfl
  · obtain ⟨b, -, -, rfl⟩ := txCheckBit_ok hcheck
    exact .inl rfl

theorem txStep_state {s t : State} {p : Pair} (h : txStep s = .ok (p, t)) :
    t.tx.state = s.tx.state ∨ TxEdge s.tx.state t.tx.state := by
  obtain ⟨-, -, rfl⟩ | ⟨hstate, hsync⟩ | ⟨hstate, hdata⟩ | ⟨hstate, -, rfl⟩ := txStep_ok h
  · exact .inl rfl
  · obtain rfl : t = (txSync s).2 := congrArg Prod.snd hsync
    obtain ⟨-, heq⟩ | ⟨-, heq⟩ := txSync_cases s <;> rw [heq]
    · exact .inl rfl
    · exact .inr (.inl ⟨hstate, rfl⟩)
  · exact (txData_state hdata).imp id fun hdone => .inr (.inl ⟨hstate, hdone⟩)
  · exact .inr (.inr (.inr ⟨hstate, rfl⟩))

theorem OnlyReceive.tx_eq {s t : State} (h : OnlyReceive s t) : t.tx = s.tx := by
  rw [h]

/-- `TXSTART` aside, a command leaves `tx_state` alone, initialises it, or is a `TXSTEP` along an edge. -/
theorem Change.txState {i : Instr} {s u : State} (h : Change s i u) (hstart : ∀ len, i ≠ .txstart len) :
    u.tx.state = s.tx.state
      ∨ (InitsSessions i ∧ u.tx.state = .idle)
      ∨ (i = .txstep ∧ TxEdge s.tx.state u.tx.state) := by
  cases h with
  | reset => exact .inr (.inl ⟨.inl rfl, rfl⟩)
  | enable => exact .inr (.inl ⟨.inr (.inl rfl), rfl⟩)
  | disable => exact .inr (.inl ⟨.inr (.inr rfl), rfl⟩)
  | feed _ hfed => exact .inl (by rw [(rxFeed_onlyReceive hfed).tx_eq])
  | sample _ hsampled =>
    obtain ⟨w, -, hframe, heq⟩ := saSample_receives hsampled
    exact .inl (by rw [heq, setSa_tx, hframe.tx_eq])
  | txload hwritten =>
    obtain ⟨-, rfl⟩ := memWrite_ok hwritten
    exact .inl rfl
  | txstart => exact absurd rfl (hstart _)
  | txstep hstepped => exact (txStep_state hstepped).imp id fun hedge => .inr ⟨rfl, hedge⟩
  | none | cfgw => exact .inl rfl

/-- `TXSTART` is refused, or starts a send from `Idle` (spec/43_transmit.md R161). -/
theorem execTxstart_txState {len : BitVec 8} {s t : State} (h : execTxstart len s = .next t) :
    t.tx.state = s.tx.state ∨ (s.tx.state = .idle ∧ t.tx.state = .sync) := by
  unfold execTxstart at h
  split at h
  · split at h
    · split at h
      · next hidle => exact .inr ⟨hidle, by rw [respond_next h, emit_tx, setTx_tx]⟩
      · exact .inl (by rw [respond_next h, emit_tx])
    · exact .inl (by rw [respond_next h, emit_tx])
  · exact .inl (by rw [respond_next h, emit_tx])

/-- Settles O23, by what a command's change does to each register; the response moves neither. -/
theorem stateRegistersMoveOnlyByTheTable : Obligations.StateRegistersMoveOnlyByTheTable := by
  intro i s t hexec
  obtain ⟨u, hchange, st, rd, ht⟩ := exec_change hexec
  have hrx : t.rx = u.rx := by rw [ht, emit_rx]
  have htx : t.tx = u.tx := by rw [ht, emit_tx]
  refine ⟨fun hmoved => ?_, fun hmoved => ?_⟩
  · rw [hrx] at hmoved ⊢
    obtain hsame | hinit | ⟨hfeeds, hsynced⟩ := hchange.rxState
    · exact absurd hsame hmoved
    · exact .inr hinit
    · exact .inl ⟨hfeeds, fun h => (hsynced h).resolve_left hmoved⟩
  · by_cases hstart : ∃ len, i = .txstart len
    · obtain ⟨len, rfl⟩ := hstart
      exact .inr (.inl ⟨⟨len, rfl⟩, (execTxstart_txState hexec).resolve_left hmoved⟩)
    · rw [htx] at hmoved ⊢
      obtain hsame | hinit | hedge := hchange.txState fun len heq => hstart ⟨len, heq⟩
      · exact absurd hsame hmoved
      · exact .inr (.inr hinit)
      · exact .inl hedge

end Sys2Proof.Machine
end

section
/-! SUPPORT. The pairs `TXSTEP` answers (spec/43_transmit.md R169): the pair of a bit, whose mark a legal profile
makes positive (spec/40_control.md R104), or the idle marker. -/

namespace Sys2Proof.Machine

/-- The mark of a pair stands in bits 31:16 of its word (spec/30_encoding.md R93). -/
theorem mark_packPair (p : Pair) : (packPair p).extractLsb' 16 16 = p.mark :=
  BitVec.extractLsb'_append_eq_left

theorem pairOf_mark_ne_zero {pf : Profile} (hpf : LegalProfile pf) (b : Bool) : (pairOf pf b).mark ≠ 0 := by
  obtain ⟨-, -, -, -, -, -, -, -, -, -, hzero, hone⟩ := hpf
  have hpos : 1 ≤ (pairOf pf b).mark.toNat := by
    cases b with
    | false => exact hzero
    | true => exact hone
  intro h
  simp [h] at hpos

theorem txData_pair {s t : State} {p : Pair} (h : txData s = .ok (p, t)) : ∃ b, p = pairOf s.cfg b := by
  obtain ⟨-, hp, -⟩ | ⟨-, -, hbit⟩ | ⟨-, -, hcheck⟩ := txData_ok h
  · exact ⟨false, hp⟩
  · obtain ⟨b, -, -, hp, -⟩ := txDataBit_ok hbit
    exact ⟨b, hp⟩
  · obtain ⟨b, -, hp, -⟩ := txCheckBit_ok hcheck
    exact ⟨b, hp⟩

theorem txSync_pair (s : State) : ∃ b, (txSync s).1 = pairOf s.cfg b := by
  obtain ⟨-, heq⟩ | ⟨-, heq⟩ := txSync_cases s <;> exact ⟨_, by rw [heq]⟩

/-- In `Idle` and `Done` a step answers the idle marker, in `Sync` and `Data` the pair of a bit. -/
theorem txStep_pair {s t : State} {p : Pair} (h : txStep s = .ok (p, t)) :
    ((s.tx.state = .idle ∨ s.tx.state = .done) ∧ p = idleMarker s.cfg)
      ∨ (¬ (s.tx.state = .idle ∨ s.tx.state = .done) ∧ ∃ b, p = pairOf s.cfg b) := by
  obtain ⟨hstate, hp, -⟩ | ⟨hstate, hsync⟩ | ⟨hstate, hdata⟩ | ⟨hstate, hp, -⟩ := txStep_ok h
  · exact .inl ⟨.inl hstate, hp⟩
  · obtain rfl : p = (txSync s).1 := congrArg Prod.fst hsync
    exact .inr ⟨by simp [hstate], txSync_pair s⟩
  · exact .inr ⟨by simp [hstate], txData_pair hdata⟩
  · exact .inl ⟨.inr hstate, hp⟩

/-- Settles O51, by the two kinds of pair: only the idle marker has mark 0. -/
theorem zeroMarkIsTheIdleMarker : Obligations.ZeroMarkIsTheIdleMarker := by
  intro s t hinv hen hexec
  obtain ⟨p, τ, hstep, rfl⟩ := execTxstep_next hexec
  refine ⟨packPair p, rfl, ?_⟩
  rw [mark_packPair]
  obtain ⟨hquiet, rfl⟩ | ⟨hsending, b, rfl⟩ := txStep_pair hstep
  · exact ⟨iff_of_true rfl hquiet, fun _ => rfl⟩
  · exact ⟨iff_of_false (pairOf_mark_ne_zero (hinv.enabledInv hen).legal b) hsending,
      fun hquiet => absurd hquiet hsending⟩

end Sys2Proof.Machine
end

section
/-! SUPPORT. What `NOP`, `CFGW`, `CFGR`, `ENABLE` and `DISABLE` answer in each of their cases
(spec/40_control.md R101 to R105). -/

namespace Sys2Proof.Machine

/-- Settles O12: the all-zero word is `NOP`'s, and its meaning is its response. -/
theorem nopOnlyAnswers : Obligations.NopOnlyAnswers :=
  ⟨by decide, fun _ => rfl⟩

/-! ### `CFGW` and `CFGR` (R102, R103) -/

/-- Format C with its opcode in bits 31:28, its index in bits 20:16 and its value in bits 15:0
(spec/30_encoding.md R81). -/
theorem formatC_index_value (op : BitVec 4) (idx : BitVec 5) (val : BitVec 16) :
    formatC op idx val = op.setWidth 32 <<< 28 ||| idx.setWidth 32 <<< 16 ||| val.setWidth 32 := by
  ext i hi
  grind [formatC]

theorem cfgIndex_of_lt {idx : BitVec 5} (h : idx.toNat < 19) : cfgIndex idx = some ⟨idx.toNat, h⟩ :=
  dif_pos h

theorem cfgIndex_reserved {idx : BitVec 5} (h : 19 ≤ idx.toNat) : cfgIndex idx = none :=
  dif_neg (Nat.not_lt.mpr h)

theorem execCfgw_reserved {idx : BitVec 5} (val : Duration) (s : State) (h : 19 ≤ idx.toNat) :
    execCfgw idx val s = refuse .badRange s := by
  simp only [execCfgw, cfgIndex_reserved h]

theorem execCfgw_enabled {idx : BitVec 5} (val : Duration) {s : State} (h : idx.toNat < 19)
    (hen : s.en = true) : execCfgw idx val s = refuse .locked s := by
  simp only [execCfgw, cfgIndex_of_lt h, hen, if_true]

theorem execCfgw_disabled {idx : BitVec 5} (val : Duration) {s : State} (h : idx.toNat < 19)
    (hen : s.en = false) :
    execCfgw idx val s = respond .ok 0 (s.setCfg (s.cfg.set idx.toNat val h)) := by
  simp only [execCfgw, cfgIndex_of_lt h, hen, Bool.false_eq_true, if_false]

theorem execCfgr_reserved {idx : BitVec 5} (s : State) (h : 19 ≤ idx.toNat) :
    execCfgr idx s = refuse .badRange s := by
  simp only [execCfgr, cfgIndex_reserved h]

theorem execCfgr_inRange {idx : BitVec 5} (s : State) {j : Fin 19} (h : j.val = idx.toNat) :
    execCfgr idx s = respond .ok (BitVec.ofNat 32 s.cfg[j].toNat) s := by
  have hidx : cfgIndex idx = some j := (cfgIndex_of_lt (h ▸ j.isLt)).trans (congrArg some (Fin.ext h.symm))
  simp only [execCfgr, hidx, zeroExtend_eq_ofNat]

/-- A write of one profile register, read back register by register. -/
theorem cfg_set_get (pf : Profile) {n : Nat} (hn : n < 19) (val : Duration) (j : Fin 19) :
    (pf.set n val hn)[j] = if j.val = n then val else pf[j] := by
  simp only [Fin.getElem_fin, Vector.getElem_set, eq_comm]

/-- Settles O13, by the three cases of `CFGW`: an index out of range, enabled, disabled. -/
theorem cfgwWritesOneRegister : Obligations.CfgwWritesOneRegister := fun s idx val =>
  ⟨formatC_index_value 0x2#4 idx val, execCfgw_reserved val s, execCfgw_enabled val,
    fun hlt hen => ⟨_, execCfgw_disabled val hlt hen, cfg_set_get s.cfg hlt val, rfl⟩⟩

/-- Settles O14, by the two cases of `CFGR`: an index out of range and one that names a register. -/
theorem cfgrReadsOneRegister : Obligations.CfgrReadsOneRegister := fun s idx =>
  ⟨formatC_index 0x3#4 idx, execCfgr_reserved s, fun _ => execCfgr_inRange s⟩

/-! ### `ENABLE` and `DISABLE` (R104, R105) -/

theorem execEnable_enabled {s : State} (hen : s.en = true) : execEnable s = refuse .locked s :=
  if_pos hen

theorem execEnable_illegal {s : State} (hen : s.en = false) (hpf : ¬ LegalProfile s.cfg) :
    execEnable s = refuse .badProfile s := by
  rw [execEnable, hen, if_neg Bool.false_ne_true, if_neg (mt (profileOk_iff s.cfg).mp hpf)]

theorem execEnable_legal {s : State} (hen : s.en = false) (hpf : LegalProfile s.cfg) :
    execEnable s = respond .ok 0 (initSessions (s.setEn true)) := by
  rw [execEnable, hen, if_neg Bool.false_ne_true, if_pos ((profileOk_iff s.cfg).mpr hpf)]

theorem execDisable_disabled {s : State} (hen : s.en = false) : execDisable s = refuse .notEnabled s := by
  rw [execDisable, hen, if_neg Bool.false_ne_true]

theorem execDisable_enabled {s : State} (hen : s.en = true) :
    execDisable s = respond .ok 0 (initSessions (s.setEn false)) :=
  if_pos hen

/-- Settles O15, by the three cases of `ENABLE`: enabled, an illegal profile, a legal one. -/
theorem enableChecksTheProfile : Obligations.EnableChecksTheProfile :=
  ⟨by decide, fun _ => ⟨execEnable_enabled, execEnable_illegal, execEnable_legal⟩⟩

/-- Settles O16, by the two cases of `DISABLE`: disabled and enabled. -/
theorem disableTearsDown : Obligations.DisableTearsDown :=
  ⟨by decide, fun _ => ⟨execDisable_disabled, execDisable_enabled⟩⟩

end Sys2Proof.Machine
end

section
/-! SUPPORT. Edge events of the receiver (spec/41_receive.md R120 to R137): what `FEED` does by the event's
level, its length and the votes, one equation per kind of event. -/

namespace Sys2Proof.Machine

/-! ### Windows (R123) -/

theorem inwin_eq_decide (d lo hi : Duration) : inwin d lo hi = decide (lo ≤ d ∧ d ≤ hi) :=
  (Bool.decide_and _ _).symm

theorem inwin_iff (d lo hi : Duration) :
    inwin d lo hi = true ↔ lo.toNat ≤ d.toNat ∧ d.toNat ≤ hi.toNat := by
  rw [inwin_eq_decide, decide_eq_true_iff, BitVec.le_def, BitVec.le_def]

/-- Settles O25: a duration in the window lies between its ends, so none lies in an empty one. -/
theorem windowsAreClosedIntervals : Obligations.WindowsAreClosedIntervals := by
  refine fun d lo hi => ⟨inwin_iff d lo hi, fun hempty => ?_⟩
  rw [Bool.eq_false_iff, ne_eq, inwin_iff]
  omega

/-! ### `rx_reset` (R135) -/

/-- The flush, the record and the initialisation of `rx_reset`, as one post-state. -/
theorem rxReset_eq_afterRxReset (c : ResetCause) {s : State} (h : s.rx.len.toNat ≤ 32) :
    rxReset c s = .ok (afterRxReset c.errCode s) := by
  have hflush : (if s.rx.len.toNat = 0 then s else s.emit (frameEvent s)) =
      { s with outputs := s.outputs ++ flushed s } := by
    by_cases h0 : s.rx.len = 0
    · rw [if_pos (by rw [h0]; rfl), flushed, if_pos h0, List.append_nil]
    · have hne : s.rx.len.toNat ≠ 0 := fun heq => h0 (BitVec.eq_of_toNat_eq heq)
      rw [if_neg hne, flushed, if_neg h0]
      rfl
  rw [rxReset_eq c s h, hflush, recordCause_eq]
  cases c.errCode with
  | none => rfl
  | some e => rw [satInc_eq]; rfl

/-- Settles O27: the five causes of one lemma. -/
theorem rxResetFlushesRecordsClears : Obligations.RxResetFlushesRecordsClears := fun _ h =>
  ⟨rxReset_eq_afterRxReset .eof h, rxReset_eq_afterRxReset .tie h, rxReset_eq_afterRxReset .syncFail h,
    rxReset_eq_afterRxReset .parityErr h, rxReset_eq_afterRxReset .overflow h⟩

/-- An event that ends in `rx_reset`. -/
theorem complete_rxReset (c : ResetCause) {s : State} (h : s.rx.len.toNat ≤ 32) :
    complete (rxReset c s) = .next (answered .ok 0 (afterRxReset c.errCode s)) :=
  congrArg complete (rxReset_eq_afterRxReset c h)

/-! ### The event's level and length (R121, R122, R125, R126) -/

theorem exec_feed_enabled {s : State} (l : Level) (d : Duration) (hen : s.en = true) :
    exec (.feed l d) s = complete (rxFeed d l s) :=
  if_pos hen

theorem exec_feed_idle {s : State} {d : Duration} (hen : s.en = true) (hd : s.cfg[12] ≤ d) :
    exec (.feed .space d) s = complete (rxReset .eof s) :=
  (exec_feed_enabled .space d hen).trans (congrArg complete (if_pos hd))

theorem exec_feed_short {s : State} {d : Duration} (hen : s.en = true) (hd : d < s.cfg[12]) :
    exec (.feed .space d) s = complete (rxSpace d s) :=
  (exec_feed_enabled .space d hen).trans (congrArg complete (if_neg (BitVec.not_le.mpr hd)))

/-- Settles O26: the mark half of a bit period stores the two window memberships of its length. -/
theorem markEventStoresItsVotes : Obligations.MarkEventStoresItsVotes := by
  intro s d hen
  rw [exec_feed_enabled .mark d hen, rxFeed, rxMark, inwin_eq_decide, inwin_eq_decide]
  rfl

/-- Settles O28: `rx_reset` with end of frame. -/
theorem idleSpaceEndsTheFrame : Obligations.IdleSpaceEndsTheFrame := fun _ _ hen hd hlen =>
  (exec_feed_idle hen hd).trans (complete_rxReset .eof hlen)

/-- Settles O29: without a mark half there is no bit period. -/
theorem loneSpaceIsIgnored : Obligations.LoneSpaceIsIgnored := by
  intro s d hen hd hlone
  rw [exec_feed_short hen hd, rxSpace, hlone]
  rfl

/-! ### The votes (R127) -/

theorem zeroVotes_eq_zVotes (s : State) (d : Duration) : zeroVotes s d = zVotes s d := by
  rw [zeroVotes, inwin_eq_decide]
  rfl

theorem oneVotes_eq_oVotes (s : State) (d : Duration) : oneVotes s d = oVotes s d := by
  rw [oneVotes, inwin_eq_decide]
  rfl

/-- A completed bit period is decided by its votes. -/
theorem exec_feed_endsPeriod {s : State} {d : Duration} (h : EndsPeriod s d) :
    exec (.feed .space d) s = complete (if zVotes s d = oVotes s d then rxReset .tie (clearVotes s)
      else rxBit (decide (zVotes s d < oVotes s d)) (clearVotes s)) := by
  obtain ⟨hen, hd, hmark⟩ := h
  rw [exec_feed_short hen hd, rxSpace, if_pos hmark, zeroVotes_eq_zVotes, oneVotes_eq_oVotes]

/-- Settles O30: a tie. -/
theorem tiedVotesReset : Obligations.TiedVotesReset := by
  intro s d hends htie hlen
  rw [exec_feed_endsPeriod hends, if_pos htie]
  exact complete_rxReset (s := clearVotes s) .tie hlen

/-- A majority decodes its bit. -/
theorem exec_feed_decodes {s : State} {d : Duration} {b : Bool} (h : Decodes s d b) :
    exec (.feed .space d) s = complete (rxBit b (clearVotes s)) := by
  obtain ⟨hends, hvotes⟩ := h
  rw [exec_feed_endsPeriod hends]
  cases b with
  | true =>
    have hlt : zVotes s d < oVotes s d := hvotes
    rw [if_neg hlt.ne, decide_eq_true hlt]
  | false =>
    have hlt : oVotes s d < zVotes s d := hvotes
    rw [if_neg hlt.ne', decide_eq_false hlt.not_gt]

theorem exec_feed_outside_synced {s : State} {d : Duration} {b : Bool} (h : Decodes s d b)
    (hstate : s.rx.state ≠ .synced) :
    exec (.feed .space d) s = complete (rxSyncBit b (clearVotes s)) :=
  (exec_feed_decodes h).trans (congrArg complete (if_neg hstate))

theorem exec_feed_synced {s : State} {d : Duration} {b : Bool} (h : Decodes s d b)
    (hstate : s.rx.state = .synced) :
    exec (.feed .space d) s = complete (rxDataBit b (clearVotes s)) :=
  (exec_feed_decodes h).trans (congrArg complete (if_pos hstate))

/-! ### Bits outside `Synced` (R129, R130) -/

/-- Settles O31: the zero bit of `rx_sync_bit`. -/
theorem syncZeroBitCounts : Obligations.SyncZeroBitCounts := fun _ _ hbit hstate =>
  exec_feed_outside_synced hbit hstate

theorem rxSyncBit_one_counted {s : State} (h : s.cfg.sync.toNat ≤ s.rx.syncCnt.toNat) :
    rxSyncBit true s = .ok (s.setRx { s.rx with
      state := .synced, syncCnt := 0, bitCnt := 0, acc := 0, par := false }) :=
  if_pos h

theorem rxSyncBit_one_early {s : State} (h : s.rx.syncCnt.toNat < s.cfg.sync.toNat) :
    rxSyncBit true s = rxReset .syncFail s :=
  if_neg h.not_ge

/-- Settles O32: the one bit of `rx_sync_bit`, by the zero bits counted. -/
theorem syncOneBitSynchronisesOrFails : Obligations.SyncOneBitSynchronisesOrFails := by
  intro s d hbit hstate
  rw [exec_feed_outside_synced hbit hstate]
  refine ⟨fun hcounted => ?_, fun hearly hlen => ?_⟩
  · exact congrArg complete (rxSyncBit_one_counted (s := clearVotes s) hcounted)
  · rw [rxSyncBit_one_early (s := clearVotes s) hearly]
    exact complete_rxReset (s := clearVotes s) .syncFail hlen

/-! ### Data bits (R131) -/

theorem ofBool_setWidth (b : Bool) : (BitVec.ofBool b).setWidth 8 = BitVec.ofNat 8 b.toNat := by
  cases b <;> rfl

theorem msbFirst_iff (pf : Profile) : msbFirst pf = true ↔ pf[15] = 1 := beq_iff_eq

theorem shiftIn_eq_accWith (s : State) (b : Bool) :
    shiftIn s.cfg s.rx.acc s.rx.bitCnt.toNat b = accWith s b := by
  simp only [shiftIn, msbFirst_iff, ofBool_setWidth]

section
variable {s : State} (b : Bool)

theorem rxDataBit_open (hbit : s.rx.bitCnt.toNat < s.cfg[13].toNat)
    (hopen : ¬ (s.rx.bitCnt.toNat + 1 = s.cfg[13].toNat ∧ s.cfg[14] = 0)) :
    rxDataBit b s = .ok (s.setRx { s.rx with
      acc := accWith s b, par := s.rx.par ^^ b, bitCnt := s.rx.bitCnt + 1 }) := by
  have hopen' : ¬ ((s.rx.bitCnt + 1).toNat = s.cfg[13].toNat ∧ s.cfg[14] = 0) := fun ⟨hlast, hparity⟩ =>
    hopen ⟨by bv_omega, hparity⟩
  rw [← shiftIn_eq_accWith]
  exact (if_pos hbit).trans (if_neg hopen')

theorem rxDataBit_lastBit (hlast : s.rx.bitCnt.toNat + 1 = s.cfg[13].toNat) (hbits : s.cfg[13].toNat ≤ 8)
    (hparity : s.cfg[14] = 0) :
    rxDataBit b s = rxByteDone (s.setRx { s.rx with
      acc := accWith s b, par := s.rx.par ^^ b, bitCnt := s.rx.bitCnt + 1 }) := by
  have hbit : s.rx.bitCnt.toNat < s.cfg[13].toNat := by omega
  have hlast' : (s.rx.bitCnt + 1).toNat = s.cfg[13].toNat := by bv_omega
  rw [← shiftIn_eq_accWith]
  exact (if_pos hbit).trans (if_pos ⟨hlast', hparity⟩)

end

/-- Settles O33: a data bit that does not complete its byte. -/
theorem dataBitIsShiftedIn : Obligations.DataBitIsShiftedIn := by
  intro s d b hbit hstate hroom hopen
  rw [exec_feed_synced hbit hstate, rxDataBit_open (s := clearVotes s) b hroom hopen]
  rfl

/-! ### Check bits (R132) -/

theorem parityMode_cases {mode : Duration} (h1 : 1 ≤ mode.toNat) (h4 : mode.toNat ≤ 4) :
    mode = 1 ∨ mode = 2 ∨ mode = 3 ∨ mode = 4 := by
  bv_omega

theorem checkOk_of_passes {mode : Duration} {p b : Bool} (h : Passes mode p b) :
    checkOk mode p b = some true := by
  obtain ⟨rfl, hb⟩ | ⟨rfl, hb⟩ | ⟨rfl, hb⟩ | ⟨rfl, hb⟩ := h <;> simp [checkOk, hb]

theorem checkOk_of_not_passes {mode : Duration} {p b : Bool} (h1 : 1 ≤ mode.toNat) (h4 : mode.toNat ≤ 4)
    (h : ¬ Passes mode p b) : checkOk mode p b = some false := by
  obtain rfl | rfl | rfl | rfl := parityMode_cases h1 h4 <;> simpa [checkOk] using h

theorem rxDataBit_check {s : State} (b : Bool) (hdue : s.rx.bitCnt.toNat = s.cfg[13].toNat) :
    rxDataBit b s = rxCheckBit b s :=
  (if_neg hdue.not_lt).trans (if_pos hdue)

theorem rxCheckBit_passes {s : State} {b : Bool} (h : Passes s.cfg[14] s.rx.par b) :
    rxCheckBit b s = rxByteDone s := by
  have hok : checkOk s.cfg.parity s.rx.par b = some true := checkOk_of_passes h
  rw [rxCheckBit, hok]

theorem rxCheckBit_fails {s : State} {b : Bool} (h1 : 1 ≤ s.cfg[14].toNat) (h4 : s.cfg[14].toNat ≤ 4)
    (h : ¬ Passes s.cfg[14] s.rx.par b) : rxCheckBit b s = rxReset .parityErr s := by
  have hok : checkOk s.cfg.parity s.rx.par b = some false := checkOk_of_not_passes h1 h4 h
  rw [rxCheckBit, hok]

/-- Settles O35: a check bit that fails its mode. -/
theorem failedCheckBitResets : Obligations.FailedCheckBitResets := by
  intro s d b hbit hstate hdue h1 h4 hfails hlen
  rw [exec_feed_synced hbit hstate, rxDataBit_check (s := clearVotes s) b hdue,
    rxCheckBit_fails (s := clearVotes s) h1 h4 hfails]
  exact complete_rxReset (s := clearVotes s) .parityErr hlen

/-! ### Completed bytes (R133, R134) -/

/-- The state with the byte `r.acc` of the session `r` stored and counted. -/
abbrev storedByte (s : State) (r : RxSession) : State :=
  (s.setMem .frameBuf (memPut r.len.toNat r.acc s.frameBuf)).setRx
    { r with len := r.len + 1, acc := 0, bitCnt := 0, par := false }

theorem rxByteDone_setRx {s : State} {r : RxSession} (hroom : r.len.toNat < 32) :
    rxByteDone (s.setRx r) =
      if r.len.toNat + 1 = s.cfg[17].toNat then rxReset .overflow (storedByte s r)
      else .ok (storedByte s r) := by
  have hlen : (r.len + 1).toNat = r.len.toNat + 1 := by bv_omega
  rw [rxByteDone, setRx_rx, memWrite_eq (sp := .frameBuf) r.acc (s.setRx r) hroom, ← hlen]
  rfl

/-- A session with its votes consumed and the byte `v` in `rx_acc`. -/
abbrev withByte (r : RxSession) (v : Byte) (bitCnt : BitVec 4) (par : Bool) : RxSession :=
  { votesUsed r with acc := v, bitCnt := bitCnt, par := par }

/-- Either way a bit completes a byte, `rx_byte_done` runs with that byte in `rx_acc`. -/
theorem exec_feed_completesByte {s : State} {d : Duration} {b : Bool} {v : Byte}
    (h : CompletesByte s d b v) :
    ∃ n p, exec (.feed .space d) s = complete (rxByteDone (s.setRx (withByte s.rx v n p))) := by
  obtain ⟨hbit, hstate, hbits, ⟨hlast, hparity, rfl⟩ | ⟨hdue, hpasses, rfl⟩⟩ := h
  · rw [exec_feed_synced hbit hstate, rxDataBit_lastBit (s := clearVotes s) b hlast hbits hparity]
    exact ⟨_, _, rfl⟩
  · rw [exec_feed_synced hbit hstate, rxDataBit_check (s := clearVotes s) b hdue,
      rxCheckBit_passes (s := clearVotes s) hpasses]
    exact ⟨_, _, rfl⟩

/-- A byte stored at the end comes after the bytes held before. -/
theorem frameBytes_append {s t : State} {n : Nat} {v : Byte} (hepoch : t.epoch = s.epoch)
    (hnew : memGet n t.frameBuf = some v)
    (hold : ∀ a, a ≠ n → memGet a t.frameBuf = memGet a s.frameBuf) :
    frameBytes t (n + 1) = frameBytes s n ++ [v] := by
  rw [frameBytes, List.range_succ, List.map_append, List.map_singleton]
  congr 1
  · refine List.map_congr_left fun a ha => ?_
    simp only [State.byteAt, mem_frameBuf, hold a (List.mem_range.mp ha).ne, hepoch]
  · simp [State.byteAt, hnew]

/-- The frame flushed right after a byte is stored carries that byte last. -/
theorem flushed_storedByte (s : State) {r : RxSession} (hroom : r.len.toNat < 32) :
    flushed (storedByte s r) = [.frame (s.cfg[18].setWidth 8) (r.len.toNat + 1)
      (frameBytes s r.len.toNat ++ [r.acc])] := by
  have hlen : (r.len + 1).toNat = r.len.toNat + 1 := by bv_omega
  have hne : r.len + 1 ≠ 0 := by bv_omega
  have hbytes := frameBytes_append (t := storedByte s r) (s := s) (n := r.len.toNat) (v := r.acc) rfl
    (by simp) fun a ha => by simp [ha]
  rw [← hbytes, ← hlen]
  exact if_neg hne

/-- Settles O34: the byte is stored at `rx_len`, and the frame is full or not. -/
theorem completedByteIsAppended : Obligations.CompletedByteIsAppended := by
  intro s d b v hbyte hroom
  obtain ⟨n, p, hexec⟩ := exec_feed_completesByte hbyte
  rw [hexec, rxByteDone_setRx (r := withByte s.rx v n p) hroom]
  by_cases hfull : s.rx.len.toNat + 1 = s.cfg[17].toNat
  · have hlen : (s.rx.len + 1).toNat ≤ 32 := by bv_omega
    rw [if_pos hfull, complete_rxReset .overflow (s := storedByte s (withByte s.rx v n p)) hlen, afterRxReset,
      flushed_storedByte s (r := withByte s.rx v n p) hroom]
    exact ⟨_, rfl, by simp, fun a ha => by simp [ha], fun h => absurd hfull h, fun _ => rfl⟩
  · rw [if_neg hfull]
    exact ⟨_, rfl, by simp, fun a ha => by simp [ha], fun _ => rfl, fun h => absurd h hfull⟩

end Sys2Proof.Machine
end

section
/-! SUPPORT. The bits of a byte on the air (spec/43_transmit.md R170, R171, spec/41_receive.md R131, R132):
shifted in one after the other they make the byte again, and its check bit passes. -/

namespace Sys2Proof.Machine

/-- `rx_acc` after the first `k` bits on the air of the byte `v`. -/
def received (pf : Profile) (v : Byte) (k : Nat) : Byte :=
  (List.range k).foldl (fun acc i => shiftIn pf acc i (txBitOf pf v i)) 0

theorem received_succ (pf : Profile) (v : Byte) (k : Nat) :
    received pf v (k + 1) = shiftIn pf (received pf v k) k (txBitOf pf v k) := by
  simp [received, List.range_succ]

theorem received_lt (pf : Profile) (v : Byte) (k : Nat) : (received pf v k).toNat < 2 ^ k := by
  induction k with
  | zero => exact Nat.zero_lt_one
  | succ k ih =>
    rw [received_succ]
    exact shiftIn_lt _ ih

/-- Most significant bit first, the top `k` of the `BITS` bits of the byte have arrived. -/
theorem getLsbD_received_msb {pf : Profile} (hmsb : msbFirst pf = true) {v : Byte}
    (hv : v.toNat < 2 ^ pf.bits.toNat) {k : Nat} (hk : k ≤ pf.bits.toNat) {i : Nat} (hi : i < 8) :
    (received pf v k).getLsbD i = v.getLsbD (pf.bits.toNat - k + i) := by
  induction k generalizing i with
  | zero =>
    rw [getLsbD_eq_false_of_lt hv (by omega)]
    exact BitVec.getLsbD_zero
  | succ k ih =>
    obtain ⟨h0, hsucc⟩ := getLsbD_shiftIn_msb hmsb (received pf v k) k (txBitOf pf v k)
    rw [received_succ]
    cases i with
    | zero =>
      rw [h0, txBitOf, if_pos hmsb]
      congr 1
      omega
    | succ i =>
      rw [hsucc i (by omega), ih (by omega) (by omega)]
      congr 1
      omega

/-- Least significant bit first, the low `k` bits of the byte have arrived. -/
theorem getLsbD_received_lsb {pf : Profile} (hlsb : msbFirst pf = false) (v : Byte) (k : Nat) {i : Nat}
    (hi : i < 8) :
    (received pf v k).getLsbD i = (decide (i < k) && v.getLsbD i) := by
  induction k with
  | zero => simp [received]
  | succ k ih =>
    rw [received_succ, getLsbD_shiftIn_lsb hlsb _ (received_lt pf v k) hi, ih, txBitOf, if_neg (by simp [hlsb])]
    rcases Nat.lt_trichotomy i k with hlt | rfl | hgt
    · simp [hlt, hlt.ne, hlt.trans (Nat.lt_succ_self k)]
    · simp
    · simp [hgt.not_gt, hgt.ne', Nat.not_lt.mpr (Nat.succ_le_of_lt hgt)]

/-- All the bits of the byte have arrived. -/
theorem received_bits {pf : Profile} {v : Byte} (hv : v.toNat < 2 ^ pf[13].toNat) :
    received pf v pf[13].toNat = v := by
  refine BitVec.eq_of_getLsbD_eq fun i hi => ?_
  cases horder : msbFirst pf with
  | true =>
    refine (getLsbD_received_msb horder hv le_rfl hi).trans ?_
    rw [Nat.sub_self, Nat.zero_add]
  | false =>
    rw [getLsbD_received_lsb horder v _ hi]
    by_cases hlt : i < pf[13].toNat
    · simp [hlt]
    · rw [getLsbD_eq_false_of_lt hv (Nat.not_lt.mp hlt), Bool.and_false]

/-- Settles O53: `received` with all the bits. -/
theorem bitOrderOfSendMirrorsReceive : Obligations.BitOrderOfSendMirrorsReceive := fun _ _ _ _ hv =>
  received_bits hv

theorem txBitOf_eq_airBit (pf : Profile) (v : Byte) (i : Nat) : txBitOf pf v i = airBit pf v i := by
  simp only [txBitOf, msbFirst_iff, Profile.bits]

/-- The check bit sent passes. -/
theorem passes_airCheck {mode : Duration} (p : Bool) (h1 : 1 ≤ mode.toNat) (h4 : mode.toNat ≤ 4) :
    Passes mode p (airCheck mode p) := by
  obtain rfl | rfl | rfl | rfl := parityMode_cases h1 h4 <;> cases p <;> decide

end Sys2Proof.Machine
end

section
/-! SUPPORT. The round trip (spec/41_receive.md R141): the receiver followed bit by bit through the pairs of a
send. Each kind of bit is one event pair, and the statements about single events say where it leads. -/

namespace Sys2Proof.Machine

/-! ### Commands one after the other -/

theorem execAll_append {is js : List Instr} {s t : State} (h : execAll is s = .next t) :
    execAll (is ++ js) s = execAll js t := by
  induction is generalizing s with
  | nil =>
    cases h
    rfl
  | cons i is ih =>
    rw [execAll] at h
    rw [List.cons_append, execAll]
    cases hexec : exec i s with
    | next u =>
      rw [hexec] at h
      exact ih h
    | fault f => simp [hexec] at h
    | refused r => simp [hexec] at h

theorem execAll_cons {i : Instr} {is : List Instr} {s t : State} (h : exec i s = .next t) :
    execAll (i :: is) s = execAll is t := by
  rw [execAll, h]

theorem feedPairs_append (ps qs : List Pair) : feedPairs (ps ++ qs) = feedPairs ps ++ feedPairs qs :=
  List.flatMap_append

/-! ### Where the receiver stands -/

/-- The profiles of R141, with the space durations shorter than `IDLE` (log 12). -/
structure RoundTripProfile (pf : Profile) : Prop where
  legal : LegalProfile pf
  windows : WindowsSeparate pf
  zeroSpace_lt : pf[9] < pf[12]
  oneSpace_lt : pf[11] < pf[12]

/-- The frame event of the bytes `bytes`. -/
abbrev frameOf (pf : Profile) (bytes : List Byte) : PortEvent :=
  .frame (pf[18].setWidth 8) bytes.length bytes

/-- The receiver holds the bytes `bytes` and its session is `r` but for votes and `rx_len`; the frame port has
shown `shown`. -/
structure Receiving (pf : Profile) (shown : List PortEvent) (bytes : List Byte) (r : RxSession)
    (s : State) : Prop where
  en : s.en = true
  cfg : s.cfg = pf
  frames : s.outputs.filter PortEvent.isFrame = shown
  rx : votesUsed s.rx = { r with len := s.rx.len }
  len : s.rx.len.toNat = bytes.length
  len_le : bytes.length ≤ 32
  held : frameBytes s bytes.length = bytes

section
variable {pf : Profile} {shown : List PortEvent} {bytes : List Byte} {r : RxSession} {s : State}

/-- What the votes and `rx_len` leave of the session. -/
theorem Receiving.fields (h : Receiving pf shown bytes r s) :
    s.rx.state = r.state ∧ s.rx.syncCnt = r.syncCnt ∧ s.rx.bitCnt = r.bitCnt ∧ s.rx.acc = r.acc
      ∧ s.rx.par = r.par := by
  obtain ⟨hstate, hcnt, hbitCnt, hacc, hpar, -⟩ := RxSession.mk.inj h.rx
  exact ⟨hstate, hcnt, hbitCnt, hacc, hpar⟩

theorem isFrame_append_response (es : List PortEvent) (st : Status) (rd : Word) :
    (es ++ [PortEvent.response st rd]).filter PortEvent.isFrame = es.filter PortEvent.isFrame := by
  simp [PortEvent.isFrame]

/-- An event that only moves the session. -/
theorem Receiving.moved (h : Receiving pf shown bytes r s) {q r' : RxSession} (hlen : q.len = s.rx.len)
    (hq : votesUsed q = { r' with len := q.len }) :
    Receiving pf shown bytes r' (answered .ok 0 { s with rx := q }) :=
  ⟨h.en, h.cfg, (isFrame_append_response ..).trans h.frames, hq, (congrArg _ hlen).trans h.len, h.len_le,
    h.held⟩

/-! ### A pair makes a bit -/

/-- The mark half of the pair of `b` puts both its votes on `b`. -/
theorem Receiving.mark (hpf : RoundTripProfile pf) (h : Receiving pf shown bytes r s) (b : Bool) :
    ∃ t, exec (.feed .mark (airPair pf b).mark) s = .next t ∧ Receiving pf shown bytes r t
      ∧ Decodes t (airPair pf b).space b := by
  obtain ⟨-, ⟨⟨hzm, hzs, hom, hos⟩, hnzm, hnzs, hnom, hnos⟩, hzero, hone⟩ := hpf
  obtain rfl := h.cfg
  refine ⟨_, markEventStoresItsVotes s _ h.en, h.moved rfl h.rx, ⟨h.en, ?_, rfl⟩, ?_⟩
  · cases b <;> assumption
  · simp only [inwin_eq_decide, decide_eq_true_eq] at hzm hzs hom hos hnzm hnzs hnom hnos
    cases b <;> simp [zVotes, oVotes, airPair, *]

end

/-! ### Feeding bits -/

/-- From every state in `P`, the pairs of the bits `bs` lead to one in `Q`. -/
def Hears (pf : Profile) (bs : List Bool) (P Q : State → Prop) : Prop :=
  ∀ s, P s → ∃ t, execAll (feedPairs (bs.map (airPair pf))) s = .next t ∧ Q t

section
variable {pf : Profile} {P Q R : State → Prop}

theorem Hears.nil : Hears pf [] P P := fun s h => ⟨s, rfl, h⟩

theorem Hears.append {as bs : List Bool} (ha : Hears pf as P Q) (hb : Hears pf bs Q R) :
    Hears pf (as ++ bs) P R := by
  intro s hs
  obtain ⟨t, hst, ht⟩ := ha s hs
  obtain ⟨u, htu, hu⟩ := hb t ht
  refine ⟨u, ?_, hu⟩
  rw [List.map_append, feedPairs_append, execAll_append hst, htu]

theorem feedPairs_airPair (hpf : LegalProfile pf) (b : Bool) :
    feedPairs [airPair pf b] = [.feed .mark (airPair pf b).mark, .feed .space (airPair pf b).space] := by
  have hmark : (airPair pf b).mark ≠ 0 := pairOf_mark_ne_zero hpf b
  rw [feedPairs, List.flatMap_singleton, if_neg hmark]

end

section
variable {pf : Profile} {shown : List PortEvent} {bytes : List Byte} {r : RxSession}

/-- A bit leads where the space half of its pair leads once the mark half is in. -/
theorem hears_bit (hpf : RoundTripProfile pf) {b : Bool} {Q : State → Prop}
    (hspace : ∀ s d, Receiving pf shown bytes r s → Decodes s d b →
      ∃ t, exec (.feed .space d) s = .next t ∧ Q t) :
    Hears pf [b] (Receiving pf shown bytes r) Q := by
  intro s h
  obtain ⟨u, hmark, hu, hdecodes⟩ := h.mark hpf b
  obtain ⟨t, hexec, ht⟩ := hspace u _ hu hdecodes
  refine ⟨t, ?_, ht⟩
  rw [List.map_singleton, feedPairs_airPair hpf.legal, execAll_cons hmark, execAll_cons hexec, execAll]

/-! ### The preamble (R129, R130) -/

theorem hears_zero_outside (hpf : RoundTripProfile pf) (hstate : r.state ≠ .synced) :
    Hears pf [false] (Receiving pf shown bytes r) (Receiving pf shown bytes { r with
      state := .syncing
      syncCnt := if r.syncCnt.toNat < pf[16].toNat then r.syncCnt + 1 else r.syncCnt }) := by
  refine hears_bit hpf fun s d h hbit => ?_
  obtain ⟨hst, hcnt, -⟩ := h.fields
  refine ⟨_, syncZeroBitCounts s d hbit (hst ▸ hstate), h.moved rfl ?_⟩
  obtain rfl := h.cfg
  simpa [hst, hcnt] using h.rx

/-- A session between two bytes, with nothing of the next. -/
abbrev betweenBytes : RxSession := { rxCleared with state := .synced }

theorem hears_one_outside (hpf : RoundTripProfile pf) (hstate : r.state ≠ .synced)
    (hcounted : pf[16].toNat ≤ r.syncCnt.toNat) :
    Hears pf [true] (Receiving pf shown bytes r) (Receiving pf shown bytes betweenBytes) := by
  refine hears_bit hpf fun s d h hbit => ?_
  obtain ⟨hst, hcnt, -⟩ := h.fields
  obtain rfl := h.cfg
  obtain ⟨hsynchronises, -⟩ := syncOneBitSynchronisesOrFails s d hbit (hst ▸ hstate)
  exact ⟨_, hsynchronises (hcnt ▸ hcounted), h.moved rfl rfl⟩

/-- The session after `n` zero bits of the preamble. -/
abbrev counting (n : Nat) : RxSession :=
  { rxCleared with state := if n = 0 then .unsynced else .syncing, syncCnt := BitVec.ofNat 8 n }

theorem counting_state (n : Nat) : (counting n).state ≠ .synced := by
  dsimp only [counting]
  split <;> decide

theorem hears_zeros (hpf : RoundTripProfile pf) {n : Nat} (hn : n ≤ pf[16].toNat) :
    Hears pf (List.replicate n false) (Receiving pf shown bytes (counting 0))
      (Receiving pf shown bytes (counting n)) := by
  induction n with
  | zero => exact Hears.nil
  | succ n ih =>
    have hmore : (BitVec.ofNat 8 n).toNat < pf[16].toNat := by
      rw [BitVec.toNat_ofNat]
      exact (Nat.mod_le _ _).trans_lt hn
    have hzero := hears_zero_outside (shown := shown) (bytes := bytes) hpf (counting_state n)
    have hsucc : (counting n).syncCnt + 1 = (counting (n + 1)).syncCnt := (BitVec.ofNat_add ..).symm
    rw [if_pos hmore, hsucc] at hzero
    rw [List.replicate_succ']
    exact (ih (by omega)).append hzero

/-- The preamble synchronises. -/
theorem hears_preamble (hpf : RoundTripProfile pf) :
    Hears pf (List.replicate pf[16].toNat false ++ [true]) (Receiving pf shown bytes (counting 0))
      (Receiving pf shown bytes betweenBytes) := by
  refine (hears_zeros hpf le_rfl).append (hears_one_outside hpf (counting_state _) ?_)
  obtain ⟨-, -, -, hsync, -⟩ := hpf.legal
  rw [BitVec.toNat_ofNat, Nat.mod_eq_of_lt (by omega)]

/-! ### The bits of a byte (R131 to R134) -/

/-- The session after the first `k` bits on the air of the byte `v`. -/
abbrev inByte (pf : Profile) (v : Byte) (k : Nat) : RxSession :=
  { betweenBytes with
    bitCnt := BitVec.ofNat 4 k, acc := received pf v k, par := xorBelow k (airBit pf v) }

theorem inByte_bitCnt (hpf : LegalProfile pf) (v : Byte) {k : Nat} (hk : k ≤ pf[13].toNat) :
    (inByte pf v k).bitCnt.toNat = k := by
  obtain ⟨⟨-, hbits⟩, -⟩ := hpf
  rw [BitVec.toNat_ofNat, Nat.mod_eq_of_lt (by omega)]

/-- The next bit on the air goes into `rx_acc` as the next bit received. -/
theorem accWith_airBit (hpf : LegalProfile pf) {v : Byte} {k : Nat} (hk : k ≤ pf[13].toNat) {s : State}
    (h : Receiving pf shown bytes (inByte pf v k) s) : accWith s (airBit pf v k) = received pf v (k + 1) := by
  obtain ⟨-, -, hbitCnt, hacc, -⟩ := h.fields
  rw [← shiftIn_eq_accWith, received_succ, txBitOf_eq_airBit, h.cfg, hacc, hbitCnt, inByte_bitCnt hpf v hk]

/-- A data bit that does not complete its byte. -/
theorem hears_dataBit (hpf : RoundTripProfile pf) (v : Byte) {k : Nat} (hk : k < pf[13].toNat)
    (hopen : ¬ (k + 1 = pf[13].toNat ∧ pf[14] = 0)) :
    Hears pf [airBit pf v k] (Receiving pf shown bytes (inByte pf v k))
      (Receiving pf shown bytes (inByte pf v (k + 1))) := by
  refine hears_bit hpf fun s d h hbit => ?_
  obtain ⟨hstate, hcnt, hbitCnt, hacc, hpar⟩ := h.fields
  have hk' : s.rx.bitCnt.toNat = k := by rw [hbitCnt, inByte_bitCnt hpf.legal v hk.le]
  have hnext := accWith_airBit hpf.legal hk.le h
  obtain rfl := h.cfg
  refine ⟨_, dataBitIsShiftedIn s d _ hbit hstate (hk' ▸ hk) (hk' ▸ hopen), h.moved rfl ?_⟩
  simp [hstate, hcnt, hbitCnt, hpar, hnext, xorBelow_succ, BitVec.ofNat_add]

theorem hears_dataBits (hpf : RoundTripProfile pf) (v : Byte) {k : Nat} (hk : k ≤ pf[13].toNat)
    (hopen : ¬ (k = pf[13].toNat ∧ pf[14] = 0)) :
    Hears pf ((List.range k).map (airBit pf v)) (Receiving pf shown bytes betweenBytes)
      (Receiving pf shown bytes (inByte pf v k)) := by
  induction k with
  | zero => exact Hears.nil
  | succ k ih =>
    rw [List.range_succ, List.map_append, List.map_singleton]
    exact (ih (by omega) (by omega)).append (hears_dataBit hpf v hk hopen)

/-- The receiver after the bytes `bytes`: it holds them, or they filled the frame and were flushed (R134). -/
def Collected (pf : Profile) (shown : List PortEvent) (bytes : List Byte) (s : State) : Prop :=
  (bytes.length < pf[17].toNat ∧ Receiving pf shown bytes betweenBytes s)
    ∨ (bytes.length = pf[17].toNat ∧ Receiving pf (shown ++ [frameOf pf bytes]) [] rxCleared s)

/-- A bit that completes the byte `v`. -/
theorem collected_of_completesByte (hpf : LegalProfile pf) (hroom : bytes.length < pf[17].toNat) {v : Byte}
    {k : Nat} {s : State} (h : Receiving pf shown bytes (inByte pf v k) s) {d : Duration} {b : Bool}
    (hbyte : CompletesByte s d b v) :
    ∃ t, exec (.feed .space d) s = .next t ∧ Collected pf shown (bytes ++ [v]) t := by
  obtain ⟨hstate, hcnt, -⟩ := h.fields
  obtain ⟨-, -, -, -, ⟨-, hmax⟩, -⟩ := hpf
  have hlen := h.len
  obtain rfl := h.cfg
  obtain ⟨t, hexec, hnew, hold, hstored, hfull⟩ := completedByteIsAppended s d b v hbyte (by omega)
  have hlength : (bytes ++ [v]).length = bytes.length + 1 := by simp
  refine ⟨t, hexec, ?_⟩
  by_cases hlast : s.rx.len.toNat + 1 = s.cfg[17].toNat
  · refine .inr ⟨by omega, ?_⟩
    rw [hfull hlast]
    refine ⟨h.en, rfl, ?_, rfl, rfl, Nat.zero_le 32, rfl⟩
    rw [isFrame_append_response, List.filter_append, h.frames, frameOf, hlen, h.held, hlength]
    rfl
  · have ht := hstored hlast
    have hepoch : t.epoch = s.epoch := by rw [ht]
    have hheld := frameBytes_append hepoch hnew hold
    generalize t.frameBuf = m at ht
    subst ht
    refine .inl ⟨by omega, h.en, rfl, (isFrame_append_response ..).trans h.frames, ?_, ?_, by omega, ?_⟩
    · simp [hstate, hcnt]
    · change (s.rx.len + 1).toNat = _
      bv_omega
    · rw [hlength, ← hlen, hheld, hlen, h.held]

/-- The last data bit completes the byte where there is no check bit. -/
theorem Receiving.completes_lastBit (hpf : LegalProfile pf) {v : Byte} (hv : v.toNat < 2 ^ pf[13].toNat)
    {k : Nat} (hk : k + 1 = pf[13].toNat) (hparity : pf[14] = 0) {s : State} {d : Duration}
    (h : Receiving pf shown bytes (inByte pf v k) s) (hbit : Decodes s d (airBit pf v k)) :
    CompletesByte s d (airBit pf v k) v := by
  obtain ⟨hstate, -, hbitCnt, -⟩ := h.fields
  have hacc := accWith_airBit hpf (by omega) h
  rw [hk, received_bits hv] at hacc
  have hcnt := inByte_bitCnt hpf v (k := k) (by omega)
  obtain ⟨⟨-, hbits⟩, -⟩ := hpf
  obtain rfl := h.cfg
  exact ⟨hbit, hstate, hbits, .inl ⟨by rw [hbitCnt, hcnt, hk], hparity, hacc.symm⟩⟩

/-- The check bit completes the byte where there is one. -/
theorem Receiving.completes_check (hpf : LegalProfile pf) {v : Byte} (hv : v.toNat < 2 ^ pf[13].toNat)
    (hparity : pf[14] ≠ 0) {s : State} {d : Duration}
    (h : Receiving pf shown bytes (inByte pf v pf[13].toNat) s)
    (hbit : Decodes s d (airCheck pf[14] (xorAll (dataBits pf v)))) :
    CompletesByte s d (airCheck pf[14] (xorAll (dataBits pf v))) v := by
  obtain ⟨hstate, -, hbitCnt, hacc, hpar⟩ := h.fields
  have hv' : s.rx.acc = v := hacc.trans (received_bits hv)
  have hcnt := inByte_bitCnt hpf v le_rfl
  obtain ⟨⟨-, hbits⟩, hparity4, -⟩ := hpf
  have hpasses := passes_airCheck s.rx.par (parity_pos_of_ne_zero hparity) hparity4
  obtain rfl := h.cfg
  exact ⟨hbit, hstate, hbits, .inr ⟨by rw [hbitCnt, hcnt], by rwa [hpar] at hpasses ⊢, hv'.symm⟩⟩

/-- The bits of a byte collect it. -/
theorem hears_byte (hpf : RoundTripProfile pf) (hroom : bytes.length < pf[17].toNat) {v : Byte}
    (hv : v.toNat < 2 ^ pf[13].toNat) :
    Hears pf (byteBits pf v) (Receiving pf shown bytes betweenBytes) (Collected pf shown (bytes ++ [v])) := by
  obtain ⟨⟨hbits, -⟩, -⟩ := hpf.legal
  by_cases hparity : pf[14] = 0
  · obtain ⟨k, hk⟩ : ∃ k, k + 1 = pf[13].toNat := ⟨pf[13].toNat - 1, by omega⟩
    rw [byteBits, dataBits, if_pos hparity, List.append_nil, ← hk, List.range_succ, List.map_append,
      List.map_singleton]
    exact (hears_dataBits hpf v (by omega) (by omega)).append (hears_bit hpf fun s d h hbit =>
      collected_of_completesByte hpf.legal hroom h (h.completes_lastBit hpf.legal hv hk hparity hbit))
  · rw [byteBits, if_neg hparity]
    exact (hears_dataBits hpf v le_rfl fun ⟨_, hzero⟩ => hparity hzero).append
      (hears_bit hpf fun s d h hbit =>
        collected_of_completesByte hpf.legal hroom h (h.completes_check hpf.legal hv hparity hbit))

/-- The bits of a payload collect it, as long as it fits. -/
theorem hears_payload (hpf : RoundTripProfile pf) {payload : List Byte}
    (hfits : bytes.length + payload.length ≤ pf[17].toNat)
    (hpayload : ∀ v ∈ payload, v.toNat < 2 ^ pf[13].toNat) :
    Hears pf (payload.flatMap (byteBits pf)) (Collected pf shown bytes)
      (Collected pf shown (bytes ++ payload)) := by
  induction payload generalizing bytes with
  | nil =>
    rw [List.append_nil]
    exact Hears.nil
  | cons v payload ih =>
    rw [List.length_cons] at hfits
    have hroom : bytes.length < pf[17].toNat := by omega
    have hbyte : Hears pf (byteBits pf v) (Collected pf shown bytes) (Collected pf shown (bytes ++ [v])) := by
      rintro s (⟨-, h⟩ | ⟨hfull, -⟩)
      · exact hears_byte hpf hroom (hpayload v List.mem_cons_self) s h
      · omega
    have hrest := ih (bytes := bytes ++ [v]) (by rw [List.length_append, List.length_singleton]; omega)
      fun w hw => hpayload w (List.mem_cons_of_mem v hw)
    rw [List.append_assoc, List.singleton_append] at hrest
    exact hbyte.append hrest

/-! ### The end of the send (R122, R141) -/

/-- The frame of `payload` was flushed and nothing is held since, or its bytes are held still. -/
def FrameDue (pf : Profile) (shown : List PortEvent) (payload : List Byte) (s : State) : Prop :=
  ∃ r, Receiving pf shown payload r s ∨ Receiving pf (shown ++ [frameOf pf payload]) [] r s

/-- The end marker is a zero bit that completes no byte: a data bit of the next byte, or, where the frame is
flushed already, a bit of a preamble (log 12). -/
theorem hears_endMarker (hpf : RoundTripProfile pf) (hopen : ¬ (pf[13] = 1 ∧ pf[14] = 0)) :
    Hears pf [false] (Collected pf shown bytes) (FrameDue pf shown bytes) := by
  obtain ⟨⟨hbits, -⟩, -⟩ := hpf.legal
  have hopen' : ¬ (0 + 1 = pf[13].toNat ∧ pf[14] = 0) := fun ⟨hone, hparity⟩ =>
    hopen ⟨BitVec.eq_of_toNat_eq hone.symm, hparity⟩
  rintro s (⟨-, h⟩ | ⟨-, h⟩)
  · have hzero : airBit pf 0 0 = false := by simp
    obtain ⟨t, hst, ht⟩ := hears_dataBit hpf 0 hbits hopen' s h
    rw [hzero] at hst
    exact ⟨t, hst, _, .inl ht⟩
  · obtain ⟨t, hst, ht⟩ := hears_zero_outside hpf (by decide) s h
    exact ⟨t, hst, _, .inr ht⟩

/-- All the bits of a send leave its frame due or shown. -/
theorem hears_send (hpf : RoundTripProfile pf) (hopen : ¬ (pf[13] = 1 ∧ pf[14] = 0)) {payload : List Byte}
    (hfits : payload.length ≤ pf[17].toNat) (hpayload : ∀ v ∈ payload, v.toNat < 2 ^ pf[13].toNat) :
    Hears pf (sendBits pf payload) (Receiving pf shown [] (counting 0)) (FrameDue pf shown payload) := by
  obtain ⟨-, -, -, -, ⟨hmax, -⟩, -⟩ := hpf.legal
  have hstart : Hears pf (List.replicate pf[16].toNat false ++ [true]) (Receiving pf shown [] (counting 0))
      (Collected pf shown []) := fun s h =>
    (hears_preamble hpf s h).imp fun t ⟨hst, ht⟩ => ⟨hst, .inl ⟨hmax, ht⟩⟩
  have hbytes := hears_payload (shown := shown) (bytes := []) hpf (by simpa using hfits) hpayload
  exact (hstart.append hbytes).append (hears_endMarker hpf hopen)

/-- The idle marker ends the frame: the bytes held, if any, are shown (R122). -/
theorem Receiving.idle {s : State} (h : Receiving pf shown bytes r s) :
    ∃ t, exec (.feed .space pf[12]) s = .next t
      ∧ t.outputs.filter PortEvent.isFrame = shown ++ if bytes = [] then [] else [frameOf pf bytes] := by
  obtain rfl := h.cfg
  have hle : s.rx.len.toNat ≤ 32 := h.len.le.trans h.len_le
  refine ⟨_, idleSpaceEndsTheFrame s _ h.en (BitVec.le_refl _) hle, ?_⟩
  have hflushed : flushed s = if bytes = [] then [] else [frameOf s.cfg bytes] := by
    have hempty : s.rx.len = 0 ↔ bytes = [] := by
      rw [← List.length_eq_zero_iff, ← h.len]
      exact BitVec.toNat_inj.symm
    by_cases hnil : bytes = []
    · rw [if_pos hnil, flushed, if_pos (hempty.mpr hnil)]
    · rw [if_neg hnil, flushed, if_neg (mt hempty.mp hnil), h.len, h.held]
      rfl
  rw [isFrame_append_response, List.filter_append, h.frames, hflushed]
  congr 1
  split <;> rfl

end

/-- A receiver in `Unsynced` holds nothing (R138). -/
theorem receiving_of_unsynced {s : State} (hinv : Inv s) (hen : s.en = true) (hstate : s.rx.state = .unsynced) :
    Receiving s.cfg (s.outputs.filter PortEvent.isFrame) [] (counting 0) s := by
  obtain ⟨huns, hnot, -⟩ := (hinv.enabledInv hen).rx
  obtain ⟨hbitCnt, hacc, hpar, hlen⟩ := hnot (by simp [hstate])
  refine ⟨hen, rfl, rfl, ?_, by simp [hlen], Nat.zero_le 32, rfl⟩
  simp [hstate, huns hstate, hbitCnt, hacc, hpar]

theorem feedPairs_sendPairs (pf : Profile) (payload : List Byte) :
    feedPairs (sendPairs pf payload) =
      feedPairs ((sendBits pf payload).map (airPair pf)) ++ [.feed .space pf[12]] :=
  feedPairs_append _ _

/-- Settles O59: the bits of the send, and then the idle marker, which ends the frame if the last byte has
not. -/
theorem receiverRecoversTheSentPayload : Obligations.ReceiverRecoversTheSentPayload := by
  intro s payload hinv hen hstate hwindows hzero hone hopen hne hfits hpayload
  have hpf : RoundTripProfile s.cfg := ⟨(hinv.enabledInv hen).legal, hwindows, hzero, hone⟩
  obtain ⟨u, hsend, r, hdue⟩ :=
    hears_send hpf hopen hfits hpayload s (receiving_of_unsynced hinv hen hstate)
  rw [feedPairs_sendPairs, execAll_append hsend]
  obtain h | h := hdue
  · obtain ⟨t, hexec, hframes⟩ := h.idle
    rw [if_neg (List.length_pos_iff.mp hne)] at hframes
    exact ⟨t, execAll_cons hexec, hframes⟩
  · obtain ⟨t, hexec, hframes⟩ := h.idle
    rw [if_pos rfl, List.append_nil] at hframes
    exact ⟨t, execAll_cons hexec, hframes⟩

end Sys2Proof.Machine
end

section
/-! SUPPORT. The round trip without the side conditions that R141 leaves unsaid (log 12): with `BITS` 1 and no
check bit the end marker of a send completes a byte of its own, which the frame carries too. -/

namespace Sys2Proof.Machine

/-- A legal profile with windows as R141 asks: a zero is mark 1 and space 1, a one is mark 2 and space 2, `IDLE`
is 3; `BITS` is 1 without a check bit, `SYNC` 0, `MAXFRAME` 32. -/
def oneBitProfile : Profile := #v[1, 1, 2, 2, 1, 1, 2, 2, 1, 1, 2, 2, 3, 1, 0, 0, 0, 32, 0]

/-- The machine right after `ENABLE` with that profile. -/
def oneBitState : State := { State.reset with en := true, cfg := oneBitProfile }

theorem oneBitState_inv : Inv oneBitState :=
  inv_enable (inv_setCfg invariantAtReset rfl oneBitProfile) (by decide)

/-- The frame events shown by the end of a run. -/
def framesShown : Answer → List PortEvent
  | .next t => t.outputs.filter PortEvent.isFrame
  | _ => []

/-- The one byte 0 is sent, the two bytes 0, 0 are received. -/
theorem framesShown_oneBit :
    framesShown (execAll (feedPairs (sendPairs oneBitProfile [0])) oneBitState) = [.frame 0 2 [0, 0]] := by
  decide

/-- Refutes O60: the payload of one byte 0, sent and received under `oneBitProfile`. -/
theorem not_roundTripAsWorded : ¬ Obligations.RoundTripAsWorded := by
  intro h
  obtain ⟨t, hrun, hframes⟩ := h oneBitState [0] oneBitState_inv rfl rfl (by decide) (by decide) (by decide)
    (by decide)
  have htwo : t.outputs.filter PortEvent.isFrame = [.frame 0 2 [0, 0]] := by
    rw [← framesShown_oneBit]
    exact congrArg framesShown hrun.symm
  rw [hframes] at htwo
  exact absurd htwo (by decide)

end Sys2Proof.Machine
end

section
/-! SUPPORT. The sample adapter (spec/42_sample_adapter.md R150 to R155): what `SAMPLE` does by whether a run
has started, by the sample's level against the run's, and by the idle timeout, one equation per case. -/

namespace Sys2Proof.Machine

/-! ### The level of a sample (R151) -/

theorem sampleLevel_eq_shownLevel (smp : Byte) : sampleLevel smp = shownLevel smp := rfl

theorem exec_sample_enabled {s : State} (smp : Byte) (hen : s.en = true) :
    exec (.sample smp) s = complete (saSample Config.saIdleTimeout (shownLevel smp) s) :=
  if_pos hen

/-- Settles O39: `SAMPLE` reads nothing of its operand but the level. -/
theorem sampleLevelIsTheHighBit : Obligations.SampleLevelIsTheHighBit := by
  refine ⟨sampleLevel_eq_shownLevel, fun s x y hbit => ?_⟩
  have hlevel : sampleLevel x = sampleLevel y := congrArg levelOfBit hbit
  change sampleWith _ x s = sampleWith _ y s
  rw [sampleWith, sampleWith, hlevel]

/-! ### The first sample (R152) -/

theorem saSample_first {s : State} (timeout : Bool) (l : Level) (hv : s.sa.valid = false) :
    saSample timeout l s = .ok (s.setSa ⟨true, l, 1⟩) :=
  if_neg (Bool.eq_false_iff.mp hv)

/-- Settles O38: without a run the sample writes the adapter and gives the receiver nothing. -/
theorem firstSampleStartsARun : Obligations.FirstSampleStartsARun := by
  intro s smp hen hv
  rw [exec_sample_enabled smp hen, saSample_first _ _ hv]
  rfl

/-! ### A sample at the level of the run (R153, R154) -/

/-- The state with the run one longer. -/
def grownRun (s : State) : State := s.setSa { s.sa with run := plusOneSat s.sa.run }

theorem timesOut_iff (timeout : Bool) (s : State) (old new : Duration) :
    timesOut timeout s old new = true ↔
      timeout = true ∧ s.sa.level = .space ∧ old < s.cfg[12] ∧ s.cfg[12] ≤ new := by
  simp only [timesOut, Bool.and_eq_true, decide_eq_true_iff, and_assoc]
  rfl

theorem saSample_same {s : State} (timeout : Bool) (hv : s.sa.valid = true) :
    saSample timeout s.sa.level s =
      if timesOut timeout s s.sa.run (plusOneSat s.sa.run) then
        rxFeed (plusOneSat s.sa.run) .space (grownRun s)
      else .ok (grownRun s) := by
  rw [saSample, if_pos hv, if_pos rfl, grownRun, ← satInc_eq]
  rfl

/-- The run only grows where it does not time out. -/
theorem saSample_grows {s : State} {timeout : Bool} (hv : s.sa.valid = true)
    (h : ¬ (timeout = true ∧ s.sa.level = .space ∧ s.sa.run < s.cfg[12]
      ∧ s.cfg[12] ≤ plusOneSat s.sa.run)) :
    saSample timeout s.sa.level s = .ok (grownRun s) := by
  rw [saSample_same timeout hv, if_neg (mt (timesOut_iff _ _ _ _).mp h)]

/-- A space run that reaches `IDLE` has grown, and is then an end of frame (R154). -/
theorem saSample_timesOut {s : State} (hv : s.sa.valid = true) (hspace : s.sa.level = .space)
    (hbelow : s.sa.run < s.cfg[12]) (hreached : s.cfg[12] ≤ plusOneSat s.sa.run) :
    saSample true s.sa.level s = rxReset .eof (grownRun s) := by
  have htimeout := (timesOut_iff true s _ _).mpr ⟨rfl, hspace, hbelow, hreached⟩
  rw [saSample_same true hv, if_pos htimeout]
  exact if_pos hreached

/-- Settles O40: short of the timeout the adapter alone changes. -/
theorem sameLevelSampleGrowsTheRun : Obligations.SameLevelSampleGrowsTheRun := by
  intro s smp hen hv hlevel hno
  rw [exec_sample_enabled smp hen, ← hlevel, saSample_grows hv fun h => hno h.2]
  rfl

/-- Settles O41: the growth of the run, then `rx_reset` with end of frame; without the parameter the growth
alone. -/
theorem spaceRunTimesOutAtIdle : Obligations.SpaceRunTimesOutAtIdle := by
  intro s smp hen hv hspace hsmp hbelow hreached
  have hlevel : shownLevel smp = s.sa.level := hsmp.trans hspace.symm
  refine ⟨fun hlen => ?_, ?_⟩
  · rw [exec_sample_enabled smp hen, hlevel, Config.saIdleTimeout, saSample_timesOut hv hspace hbelow hreached]
    exact complete_rxReset (s := grownRun s) .eof hlen
  · rw [sampleWith, if_pos hen, sampleLevel_eq_shownLevel, hlevel,
      saSample_grows hv fun h => Bool.false_ne_true h.1]
    rfl

/-! ### A sample at the other level (R155) -/

/-- The finished run is fed, which leaves the adapter alone, and the new run has length 1. -/
theorem saSample_edge {s u : State} {l : Level} (timeout : Bool) (hv : s.sa.valid = true)
    (hne : s.sa.level ≠ l) (hfeed : rxFeed s.sa.run s.sa.level s = .ok u) :
    saSample timeout l s = .ok (u.setSa ⟨true, l, 1⟩) := by
  have hvalid : u.sa.valid = true := by rw [(rxFeed_onlyReceive hfeed).sa_eq, hv]
  rw [saSample, if_pos hv, if_neg hne.symm, saEdge, hfeed, ← hvalid]

/-- Settles O42: both commands feed the finished run to the receiver, and the answer is beside the adapter. -/
theorem transitionReportsTheRun : Obligations.TransitionReportsTheRun := by
  intro s t smp hen hv hne hexec
  rw [exec_feed_enabled _ _ hen] at hexec
  obtain ⟨u, hfeed, rfl⟩ := complete_next hexec
  rw [exec_sample_enabled smp hen, saSample_edge _ hv hne hfeed]
  rfl

end Sys2Proof.Machine
end

section
/-! SUPPORT. The transmit commands (spec/43_transmit.md R160 to R168): what `TXLOAD`, `TXSTART` and `TXSTEP` do by
the operand's range, `en`, `tx_state` and the transmit session, one equation per case. -/

namespace Sys2Proof.Machine

/-! ### Encodings (spec/30_encoding.md R81) -/

theorem formatB_address_data (op : BitVec 4) (addr data : BitVec 8) :
    formatB op addr data = op.setWidth 32 <<< 28 ||| addr.setWidth 32 <<< 16 ||| data.setWidth 32 := by
  ext i hi
  grind [formatB]

theorem formatS_byte (op : BitVec 4) (b : BitVec 8) :
    formatS op b = op.setWidth 32 <<< 28 ||| b.setWidth 32 := by
  ext i hi
  grind [formatS]

/-! ### `TXLOAD` and `TXSTART` (R160, R161) -/

theorem txAddrOk_iff (addr : BitVec 8) : txAddrOk addr = true ↔ addr.toNat < 32 :=
  decide_eq_true_iff

theorem txLenOk_iff (len : BitVec 8) : txLenOk len = true ↔ len.toNat ≤ 32 :=
  decide_eq_true_iff

theorem execTxload_reserved {addr : BitVec 8} (data : Byte) (s : State) (h : 32 ≤ addr.toNat) :
    execTxload addr data s = refuse .badRange s :=
  if_neg (mt (txAddrOk_iff addr).mp h.not_gt)

theorem execTxload_inRange {addr : BitVec 8} (data : Byte) (s : State) (h : addr.toNat < 32) :
    execTxload addr data s = if s.tx.state = .idle then
      respond .ok 0 (s.setMem .txBuf (memPut addr.toNat data s.txBuf)) else refuse .txBusy s := by
  rw [execTxload, if_pos ((txAddrOk_iff addr).mpr h), memWrite_eq (sp := .txBuf) data s h]
  rfl

/-- Settles O43, by the three cases of `TXLOAD`: an address out of range, a send in progress, none. -/
theorem txloadWritesOneByte : Obligations.TxloadWritesOneByte := by
  refine fun s addr data => ⟨formatB_address_data 0x8#4 addr data, execTxload_reserved data s,
    fun haddr hbusy => (execTxload_inRange data s haddr).trans (if_neg hbusy),
    fun haddr hidle => ⟨_, (execTxload_inRange data s haddr).trans (if_pos hidle), ?_, ?_, rfl⟩⟩
  · simp
  · intro a ha
    simp [ha]

theorem execTxstart_reserved {len : BitVec 8} (s : State) (h : 33 ≤ len.toNat) :
    execTxstart len s = refuse .badRange s :=
  if_neg (mt (txLenOk_iff len).mp (Nat.not_le.mpr h))

theorem execTxstart_disabled {len : BitVec 8} {s : State} (h : len.toNat ≤ 32) (hen : s.en = false) :
    execTxstart len s = refuse .notEnabled s := by
  rw [execTxstart, if_pos ((txLenOk_iff len).mpr h), hen, if_neg Bool.false_ne_true]

theorem execTxstart_enabled {len : BitVec 8} {s : State} (h : len.toNat ≤ 32) (hen : s.en = true) :
    execTxstart len s = if s.tx.state = .idle then
      respond .ok 0 (s.setTx ⟨.sync, 0, 0, false, BitVec.ofNat 6 len.toNat⟩) else refuse .txBusy s := by
  rw [execTxstart, if_pos ((txLenOk_iff len).mpr h), if_pos hen]
  rfl

/-- Settles O44, by the four cases of `TXSTART`: a length out of range, disabled, a send in progress, none. -/
theorem txstartStartsASend : Obligations.TxstartStartsASend := fun s len =>
  ⟨formatS_byte 0x9#4 len, execTxstart_reserved s, execTxstart_disabled,
    fun hlen hen hbusy => (execTxstart_enabled hlen hen).trans (if_neg hbusy),
    fun hlen hen hidle => (execTxstart_enabled hlen hen).trans (if_pos hidle)⟩

/-! ### `TXSTEP` by `tx_state` (R163 to R165, R168) -/

theorem exec_txstep {s t : State} {p : Pair} (h : txStep s = .ok (p, t)) :
    exec .txstep s = .next (answered .ok (pairWord p) t) := by
  rw [exec, execTxstep, h]
  rfl

theorem txStep_idle {s : State} (h : s.tx.state = .idle) : txStep s = .ok (idleMarker s.cfg, s) := by
  rw [txStep, h]

theorem txStep_sync {s : State} (h : s.tx.state = .sync) : txStep s = .ok (txSync s) := by
  rw [txStep, h]

theorem txStep_data {s : State} (h : s.tx.state = .data) : txStep s = txData s := by
  rw [txStep, h]

theorem txStep_done {s : State} (h : s.tx.state = .done) : txStep s = .ok (idleMarker s.cfg, txInit s) := by
  rw [txStep, h]

/-- Settles O45. -/
theorem txstepInIdle : Obligations.TxstepInIdle := fun _ h => exec_txstep (txStep_idle h)

/-- Settles O46, by the zero bits sent. -/
theorem txstepInSync : Obligations.TxstepInSync := fun _ h =>
  ⟨fun hmore => exec_txstep ((txStep_sync h).trans (congrArg Except.ok (if_pos hmore))),
    fun hsent => exec_txstep ((txStep_sync h).trans (congrArg Except.ok (if_neg hsent.not_gt)))⟩

/-- Settles O47: the first case of a step in `Data`. -/
theorem txstepEndMarker : Obligations.TxstepEndMarker := fun _ h hsent =>
  exec_txstep ((txStep_data h).trans (if_pos hsent))

/-- Settles O50. -/
theorem txstepInDone : Obligations.TxstepInDone := fun _ h => exec_txstep (txStep_done h)

/-! ### A byte in `Data` (R166, R167, R171) -/

/-- Short of the payload's end a step in `Data` sends a data bit or the check bit. -/
theorem txData_inByte {s : State} (h : s.tx.byteIdx < s.tx.len) :
    txData s = if s.tx.bitIdx.toNat < s.cfg[13].toNat then txDataBit s
      else if s.tx.bitIdx.toNat = s.cfg[13].toNat then txCheckBit s else .error .txIndex := by
  rw [txData, if_neg (BitVec.ne_of_lt h), if_neg (BitVec.lt_asymm h)]
  rfl

theorem txDataBit_eq {s : State} {b : Bool} (hbyte : s.tx.byteIdx.toNat < 32) (hbits : s.cfg[13].toNat ≤ 8)
    (hbit : s.tx.bitIdx.toNat < s.cfg[13].toNat)
    (hb : b = airBit s.cfg (s.byteAt .txBuf s.tx.byteIdx.toNat) s.tx.bitIdx.toNat) :
    txDataBit s = .ok (pairOf s.cfg b, s.setTx
      (if s.tx.bitIdx.toNat + 1 = s.cfg[13].toNat ∧ s.cfg[14] = 0 then nextByte s.tx
        else { s.tx with par := s.tx.par ^^ b, bitIdx := s.tx.bitIdx + 1 })) := by
  have hcount : (s.tx.bitIdx + 1).toNat = s.tx.bitIdx.toNat + 1 := by bv_omega
  rw [txDataBit, memRead_eq (sp := .txBuf) s hbyte]
  dsimp only
  rw [txBitOf_eq_airBit, ← hb, hcount]
  rfl

/-- Settles O48: the data bit of a step in `Data`. -/
theorem txstepDataBit : Obligations.TxstepDataBit := by
  intro s b h hlt hbyte hbits hbit hb
  exact exec_txstep ((txStep_data h).trans
    ((txData_inByte hlt).trans ((if_pos hbit).trans (txDataBit_eq hbyte hbits hbit hb))))

theorem checkBit_eq_airCheck {mode : Duration} (p : Bool) (h1 : 1 ≤ mode.toNat) (h4 : mode.toNat ≤ 4) :
    checkBit mode p = some (airCheck mode p) := by
  obtain rfl | rfl | rfl | rfl := parityMode_cases h1 h4 <;> rfl

theorem not_passes_not_airCheck {mode : Duration} (p : Bool) (h1 : 1 ≤ mode.toNat) (h4 : mode.toNat ≤ 4) :
    ¬ Passes mode p (!airCheck mode p) := by
  obtain rfl | rfl | rfl | rfl := parityMode_cases h1 h4 <;> cases p <;> decide

/-- Settles O52: the check bit sent passes the receiver's test and its complement does not. -/
theorem checkBitSentIsTheOneAccepted : Obligations.CheckBitSentIsTheOneAccepted := fun _ p h1 h4 =>
  ⟨checkBit_eq_airCheck p h1 h4, checkOk_of_passes (passes_airCheck p h1 h4),
    checkOk_of_not_passes h1 h4 (not_passes_not_airCheck p h1 h4)⟩

theorem txCheckBit_eq {s : State} (h1 : 1 ≤ s.cfg[14].toNat) (h4 : s.cfg[14].toNat ≤ 4) :
    txCheckBit s = .ok (pairOf s.cfg (airCheck s.cfg[14] s.tx.par), s.setTx (nextByte s.tx)) := by
  have hcheck : checkBit s.cfg.parity s.tx.par = some (airCheck s.cfg[14] s.tx.par) :=
    checkBit_eq_airCheck s.tx.par h1 h4
  rw [txCheckBit, hcheck]

/-- Settles O49: the check bit of a step in `Data`. -/
theorem txstepCheckBit : Obligations.TxstepCheckBit := by
  intro s h hlt hdue h1 h4
  exact exec_txstep ((txStep_data h).trans ((txData_inByte hlt).trans
    ((if_neg hdue.not_lt).trans ((if_pos hdue).trans (txCheckBit_eq h1 h4)))))

end Sys2Proof.Machine
end

section
/-! SUPPORT. A whole send (spec/43_transmit.md R172): the transmit session followed pair by pair from `TXSTART` to
the idle marker. Each pair is one `TXSTEP`, and the statements about single steps say which and where it leads. -/

namespace Sys2Proof.Machine

/-! ### Runs of `TXSTEP` -/

/-- The state in the middle of a send: `s` but for the transmit session and what the ports have shown. -/
abbrev sendingAt (s : State) (t : TxSession) (shown : List PortEvent) : State :=
  { s with tx := t, outputs := shown }

/-- In `s`, the pairs `ps` are what as many `TXSTEP` answer while they move the transmit session from `t` to
`u`; they change nothing else. -/
def Sends (s : State) (ps : List Pair) (t u : TxSession) : Prop :=
  ∀ shown, execAll (List.replicate ps.length .txstep) (sendingAt s t shown) =
    .next (sendingAt s u (shown ++ ps.map fun p => .response .ok (pairWord p)))

/-- The pairs of the bits `bs` are sent. -/
abbrev SendsBits (s : State) (bs : List Bool) (t u : TxSession) : Prop :=
  Sends s (bs.map (airPair s.cfg)) t u

section
variable {s : State} {t u v : TxSession}

theorem Sends.nil : Sends s [] t t := fun shown => by
  rw [List.map_nil, List.append_nil]
  rfl

theorem Sends.single {p : Pair}
    (h : ∀ shown, exec .txstep (sendingAt s t shown) =
      .next (answered .ok (pairWord p) (sendingAt s u shown))) : Sends s [p] t u :=
  fun shown => execAll_cons (h shown)

theorem Sends.append {ps qs : List Pair} (hp : Sends s ps t u) (hq : Sends s qs u v) :
    Sends s (ps ++ qs) t v := by
  intro shown
  rw [List.length_append, List.replicate_add, execAll_append (hp shown), hq, List.map_append,
    List.append_assoc]

theorem SendsBits.append {as bs : List Bool} (ha : SendsBits s as t u) (hb : SendsBits s bs u v) :
    SendsBits s (as ++ bs) t v := by
  rw [SendsBits, List.map_append]
  exact Sends.append ha hb

end

/-! ### The sessions of a send -/

/-- The session of a send of `n` bytes after `k` zero bits of the preamble. -/
abbrev preambleAt (n k : Nat) : TxSession := ⟨.sync, 0, BitVec.ofNat 8 k, false, BitVec.ofNat 6 n⟩

/-- The session of a send of `n` bytes after `k` data bits, with XOR `p`, of the byte at address `i`. -/
abbrev dataAt (n i k : Nat) (p : Bool) : TxSession :=
  ⟨.data, BitVec.ofNat 6 i, BitVec.ofNat 8 k, p, BitVec.ofNat 6 n⟩

/-- The session of a send of `n` bytes at the first bit of the byte at address `i`. -/
abbrev byteStart (n i : Nat) : TxSession := dataAt n i 0 false

theorem preambleAt_succ (n k : Nat) :
    preambleAt n (k + 1) = { preambleAt n k with bitIdx := (preambleAt n k).bitIdx + 1 } := by
  rw [preambleAt, BitVec.ofNat_add]
  rfl

theorem dataAt_succ (n i k : Nat) (p : Bool) :
    dataAt n i (k + 1) p = { dataAt n i k p with bitIdx := (dataAt n i k p).bitIdx + 1 } := by
  rw [dataAt, BitVec.ofNat_add]
  rfl

theorem byteStart_succ (n i k : Nat) (p : Bool) :
    byteStart n (i + 1) = nextByte (dataAt n i k p) := by
  rw [byteStart, dataAt, BitVec.ofNat_add]
  rfl

theorem toNat_byteIdx {i : Nat} (hi : i ≤ 32) : (BitVec.ofNat 6 i).toNat = i :=
  (BitVec.toNat_ofNat ..).trans (Nat.mod_eq_of_lt (by omega))

theorem toNat_bitIdx {k : Nat} (hk : k ≤ 255) : (BitVec.ofNat 8 k).toNat = k :=
  (BitVec.toNat_ofNat ..).trans (Nat.mod_eq_of_lt (by omega))

section
variable {s : State} {n : Nat}

/-! ### The preamble (R164) -/

theorem sendsBits_zeros (hpf : LegalProfile s.cfg) {k : Nat} (hk : k ≤ s.cfg[16].toNat) :
    SendsBits s (List.replicate k false) (preambleAt n 0) (preambleAt n k) := by
  have ⟨_, _, _, hsync, _⟩ := hpf
  induction k with
  | zero => exact Sends.nil
  | succ k ih =>
    have hzero : SendsBits s [false] (preambleAt n k) (preambleAt n (k + 1)) := by
      rw [preambleAt_succ]
      refine Sends.single fun shown => ?_
      obtain ⟨hmore, -⟩ := txstepInSync (sendingAt s (preambleAt n k) shown) rfl
      exact hmore ((toNat_bitIdx (by omega)).trans_lt hk)
    rw [List.replicate_succ']
    exact (ih (by omega)).append hzero

theorem sendsBits_preamble (hpf : LegalProfile s.cfg) :
    SendsBits s (List.replicate s.cfg[16].toNat false ++ [true]) (preambleAt n 0) (byteStart n 0) := by
  have ⟨_, _, _, hsync, _⟩ := hpf
  refine (sendsBits_zeros hpf le_rfl).append (Sends.single fun shown => ?_)
  obtain ⟨-, hsent⟩ := txstepInSync (sendingAt s (preambleAt n s.cfg[16].toNat) shown) rfl
  exact hsent (toNat_bitIdx hsync).ge

/-! ### The bits of a byte (R166, R167) -/

theorem sendsBits_of_dataBit {t : TxSession} {b : Bool} (hstate : t.state = .data) (hlt : t.byteIdx < t.len)
    (hbyte : t.byteIdx.toNat < 32) (hbits : s.cfg[13].toNat ≤ 8) (hbit : t.bitIdx.toNat < s.cfg[13].toNat)
    (hb : b = airBit s.cfg (s.byteAt .txBuf t.byteIdx.toNat) t.bitIdx.toNat) :
    SendsBits s [b] t (if t.bitIdx.toNat + 1 = s.cfg[13].toNat ∧ s.cfg[14] = 0 then nextByte t
      else { t with par := t.par ^^ b, bitIdx := t.bitIdx + 1 }) :=
  Sends.single fun shown => txstepDataBit (sendingAt s t shown) b hstate hlt hbyte hbits hbit hb

section
variable {i : Nat} (hpf : LegalProfile s.cfg) (hi : i < n) (hn : n ≤ 32)
include hi hn

theorem byteIdx_lt_len : BitVec.ofNat 6 i < BitVec.ofNat 6 n := by
  rw [BitVec.lt_def, toNat_byteIdx hn, toNat_byteIdx (hi.le.trans hn)]
  exact hi

include hpf

/-- One data bit, and with no parity after the last one the next byte. -/
theorem sendsBits_dataBit {k : Nat} (p : Bool) (hk : k < s.cfg[13].toNat) :
    SendsBits s [airBit s.cfg (s.byteAt .txBuf i) k] (dataAt n i k p)
      (if k + 1 = s.cfg[13].toNat ∧ s.cfg[14] = 0 then byteStart n (i + 1)
        else dataAt n i (k + 1) (p ^^ airBit s.cfg (s.byteAt .txBuf i) k)) := by
  have ⟨⟨_, hbits⟩, _⟩ := hpf
  have hbyteIdx : (dataAt n i k p).byteIdx.toNat = i := toNat_byteIdx (by omega)
  have hbitIdx : (dataAt n i k p).bitIdx.toNat = k := toNat_bitIdx (by omega)
  have hair : airBit s.cfg (s.byteAt .txBuf i) k = airBit s.cfg
      (s.byteAt .txBuf (dataAt n i k p).byteIdx.toNat) (dataAt n i k p).bitIdx.toNat := by
    rw [hbyteIdx, hbitIdx]
  rw [byteStart_succ n i k p, dataAt_succ]
  have hbit := sendsBits_of_dataBit rfl (byteIdx_lt_len hi hn) (hbyteIdx.trans_lt (by omega)) hbits
    (hbitIdx.trans_lt hk) hair
  rwa [hbitIdx] at hbit

theorem sendsBits_dataBits {k : Nat} (hk : k ≤ s.cfg[13].toNat)
    (hopen : ¬ (k = s.cfg[13].toNat ∧ s.cfg[14] = 0)) :
    SendsBits s ((List.range k).map (airBit s.cfg (s.byteAt .txBuf i))) (byteStart n i)
      (dataAt n i k (xorBelow k (airBit s.cfg (s.byteAt .txBuf i)))) := by
  induction k with
  | zero => exact Sends.nil
  | succ k ih =>
    have hbit := sendsBits_dataBit hpf hi hn (xorBelow k (airBit s.cfg (s.byteAt .txBuf i))) hk
    rw [if_neg hopen, ← xorBelow_succ] at hbit
    rw [List.range_succ, List.map_append, List.map_singleton]
    exact (ih (by omega) (by omega)).append hbit

theorem sendsBits_check (hparity : s.cfg[14] ≠ 0) (p : Bool) :
    SendsBits s [airCheck s.cfg[14] p] (dataAt n i s.cfg[13].toNat p) (byteStart n (i + 1)) := by
  have ⟨⟨_, hbits⟩, hparity4, _⟩ := hpf
  rw [byteStart_succ n i s.cfg[13].toNat p]
  exact Sends.single fun shown =>
    txstepCheckBit (sendingAt s (dataAt n i s.cfg[13].toNat p) shown) rfl (byteIdx_lt_len hi hn)
      (toNat_bitIdx (by omega)) (parity_pos_of_ne_zero hparity) hparity4

/-- The bits of a byte end with its check bit, or, with no parity, with its last data bit. -/
theorem sendsBits_byte :
    SendsBits s (byteBits s.cfg (s.byteAt .txBuf i)) (byteStart n i) (byteStart n (i + 1)) := by
  have ⟨⟨hbits, _⟩, _⟩ := hpf
  by_cases hparity : s.cfg[14] = 0
  · obtain ⟨k, hk⟩ : ∃ k, s.cfg[13].toNat = k + 1 := Nat.exists_eq_add_of_le' hbits
    have hlast := sendsBits_dataBit hpf hi hn (xorBelow k (airBit s.cfg (s.byteAt .txBuf i)))
      (k := k) (by omega)
    rw [if_pos ⟨hk.symm, hparity⟩] at hlast
    rw [byteBits, if_pos hparity, List.append_nil, dataBits, hk, List.range_succ, List.map_append,
      List.map_singleton]
    exact (sendsBits_dataBits hpf hi hn (by omega) (by omega)).append hlast
  · rw [byteBits, if_neg hparity]
    exact (sendsBits_dataBits hpf hi hn le_rfl fun ⟨_, hzero⟩ => hparity hzero).append
      (sendsBits_check hpf hi hn hparity _)

end

/-! ### The whole send (R165, R168, R172) -/

/-- The first `i` bytes of the payload. -/
theorem sendsBits_payload (hpf : LegalProfile s.cfg) (hn : n ≤ 32) {i : Nat} (hi : i ≤ n) :
    SendsBits s ((s.bytesUpTo .txBuf i).flatMap (byteBits s.cfg)) (byteStart n 0) (byteStart n i) := by
  induction i with
  | zero => exact Sends.nil
  | succ i ih =>
    rw [State.bytesUpTo, List.range_succ, List.map_append, List.flatMap_append, List.map_singleton,
      List.flatMap_singleton]
    exact (ih (by omega)).append (sendsBits_byte hpf hi hn)

/-- From the session `TXSTART` leaves, a send answers all its pairs and initialises the session. -/
theorem sends_sendPairs (hpf : LegalProfile s.cfg) (hn : n ≤ 32) :
    Sends s (sendPairs s.cfg (s.bytesUpTo .txBuf n)) (preambleAt n 0) txCleared := by
  have hend : SendsBits s [false] (byteStart n n) { byteStart n n with state := .done } :=
    Sends.single fun _ => txstepEndMarker _ rfl rfl
  have hidle : Sends s [⟨0, s.cfg[12]⟩] { byteStart n n with state := .done } txCleared :=
    Sends.single fun _ => txstepInDone _ rfl
  have hbits : SendsBits s (sendBits s.cfg (s.bytesUpTo .txBuf n)) (preambleAt n 0) _ :=
    ((sendsBits_preamble hpf).append (sendsBits_payload hpf hn le_rfl)).append hend
  exact Sends.append hbits hidle

end

/-- Settles O58: `TXSTART`, then the send. The session was initial before, since `tx_state` was `Idle`. -/
theorem sendAnswersThePairSequence : Obligations.SendAnswersThePairSequence := by
  rintro s _ len hinv hen hidle - hlen rfl
  obtain ⟨hinitial, -⟩ := (hinv.enabledInv hen).tx
  obtain ⟨-, -, -, -, hstart⟩ := txstartStartsASend s len
  have hsend := sends_sendPairs (hinv.enabledInv hen).legal hlen (s.outputs ++ [.response .ok 0])
  rw [← hinitial hidle, List.append_assoc] at hsend
  exact (execAll_cons (hstart hlen hen hidle)).trans hsend

end Sys2Proof.Machine
end

section
/-! SUPPORT. Refusals by the session's state (spec/60_exceptions.md R181, R187): who answers `NOT_ENABLED`, and
who `TX_BUSY`. The refusals of `DISABLE`, `TXLOAD` and `TXSTART` stand with their commands above. -/

namespace Sys2Proof.Machine

theorem exec_feed_disabled {s : State} (l : Level) (d : Duration) (hen : s.en = false) :
    exec (.feed l d) s = refuse .notEnabled s :=
  if_neg (Bool.eq_false_iff.mp hen)

theorem exec_sample_disabled {s : State} (smp : Byte) (hen : s.en = false) :
    exec (.sample smp) s = refuse .notEnabled s :=
  if_neg (Bool.eq_false_iff.mp hen)

/-- Settles O18, by the two refusals: disabled, and a send in progress. The second asks `en` of `TXSTART`, whose
`NOT_ENABLED` comes before its `TX_BUSY` (R187), and not of `TXLOAD`. -/
theorem sessionCommandsRefusedByState : Obligations.SessionCommandsRefusedByState := by
  refine fun s => ⟨fun hen => ?notEnabled, fun hbusy => ?txBusy⟩
  case notEnabled =>
    exact ⟨fun l d => exec_feed_disabled l d hen, fun smp => exec_sample_disabled smp hen,
      fun _ hlen => execTxstart_disabled hlen hen, execDisable_disabled hen⟩
  case txBusy =>
    exact ⟨fun _ data haddr => (execTxload_inRange data s (Nat.lt_succ_of_le haddr)).trans (if_neg hbusy),
      fun _ hlen hen => (execTxstart_enabled hlen hen).trans (if_neg hbusy)⟩

end Sys2Proof.Machine
end

section
/-! SUPPORT. Reset from the outside (spec/70_reset_and_hazards.md R200 to R202): what a step with a hardware reset
does, and what each command answers at the reset state, where every register of the profile and every row of the
status map is 0. -/

namespace Sys2Proof.Machine

/-- Hardware reset only resets: no port shows anything. -/
theorem step_hardReset {s : State} {rest : List PortInput} (h : s.inputs = .hardReset :: rest) :
    step s = .next (resetAll { s with inputs := rest }) := by
  simp only [step, nextInput_cons h, answerHardReset]

/-- Settles O9: hardware reset and `RESET` both run `resetAll`, and `RESET` then responds. -/
theorem hardwareResetClearsEverything : Obligations.HardwareResetClearsEverything := fun _ _ =>
  ⟨_, step_hardReset rfl, resetAll_isResetState _, rfl, rfl, rfl⟩

/-! ### Operands in range (spec/30_encoding.md R92) -/

theorem cfgw_wellFormed_iff (idx : BitVec 5) (val : Duration) :
    (Instr.cfgw idx val).WellFormed ↔ idx.toNat < 19 := by
  simp [Instr.WellFormed, Instr.check, Config.cfgCount]

theorem cfgr_wellFormed_iff (idx : BitVec 5) : (Instr.cfgr idx).WellFormed ↔ idx.toNat < 19 := by
  simp [Instr.WellFormed, Instr.check, Config.cfgCount]

theorem strd_wellFormed_iff (idx : BitVec 5) : (Instr.strd idx).WellFormed ↔ idx.toNat < 17 := by
  simp [Instr.WellFormed, Instr.check, Config.statCount]

theorem txload_wellFormed_iff (addr : BitVec 8) (data : Byte) :
    (Instr.txload addr data).WellFormed ↔ addr.toNat < 32 := by
  simp [Instr.WellFormed, Instr.check, Config.bufBytes]

/-! ### Commands at the reset state (R202) -/

/-- The zero profile has `BITS` 0. -/
theorem not_legalProfile_zero : ¬ LegalProfile Profile.zero := fun ⟨⟨hbits, _⟩, _⟩ =>
  absurd hbits (by decide)

theorem zero_mem_statTable_reset : ∀ n < 17, (n, 0) ∈ statTable State.reset := by
  decide

/-- A command that works at reset: it answers `OK 0`, and this is all the ports have shown. -/
def WorksAtReset (i : Instr) : Prop :=
  ∃ t, exec i State.reset = .next t ∧ t.outputs = [.response .ok 0]

/-- A response `OK 0` after a change that shows nothing is all the ports have shown. -/
theorem worksAtReset_of_respond {i : Instr} {u : State} (h : exec i State.reset = respond .ok 0 u)
    (hout : u.outputs = []) : WorksAtReset i :=
  ⟨_, h, by simp [hout]⟩

theorem cfgw_worksAtReset {idx : BitVec 5} (val : Duration) (h : idx.toNat < 19) :
    WorksAtReset (.cfgw idx val) :=
  worksAtReset_of_respond (execCfgw_disabled val h rfl) rfl

theorem cfgr_worksAtReset {idx : BitVec 5} (h : idx.toNat < 19) : WorksAtReset (.cfgr idx) := by
  have hread := execCfgr_inRange State.reset (j := ⟨idx.toNat, h⟩) rfl
  have hzero : State.reset.cfg[(⟨idx.toNat, h⟩ : Fin 19)] = 0 := profileZero_get _
  rw [hzero] at hread
  exact worksAtReset_of_respond hread rfl

theorem strd_worksAtReset {idx : BitVec 5} (h : idx.toNat < 17) : WorksAtReset (.strd idx) :=
  worksAtReset_of_respond (execStrd_of_mem_statTable (zero_mem_statTable_reset _ h)) rfl

theorem txload_worksAtReset {addr : BitVec 8} (data : Byte) (h : addr.toNat < 32) :
    WorksAtReset (.txload addr data) :=
  worksAtReset_of_respond ((execTxload_inRange data State.reset h).trans (if_pos rfl)) rfl

/-- Settles O11: the refusals of a disabled machine, then the commands that work, by command. -/
theorem afterResetInert : Obligations.AfterResetInert := by
  obtain ⟨hfeed, hsample, htxstart, hdisable⟩ := (sessionCommandsRefusedByState State.reset).1 rfl
  refine ⟨hfeed, hsample, htxstart, hdisable, execEnable_illegal rfl not_legalProfile_zero,
    txstepInIdle State.reset rfl, fun i hwf hi => ?works⟩
  case works =>
    obtain rfl | rfl | ⟨idx, val, rfl⟩ | ⟨idx, rfl⟩ | ⟨idx, rfl⟩ | ⟨addr, data, rfl⟩ := hi
    · exact worksAtReset_of_respond (nopOnlyAnswers.2 State.reset) rfl
    · exact worksAtReset_of_respond (u := resetAll State.reset) rfl rfl
    · exact cfgw_worksAtReset val ((cfgw_wellFormed_iff idx val).mp hwf)
    · exact cfgr_worksAtReset ((cfgr_wellFormed_iff idx).mp hwf)
    · exact strd_worksAtReset ((strd_wellFormed_iff idx).mp hwf)
    · exact txload_worksAtReset data ((txload_wellFormed_iff addr data).mp hwf)

end Sys2Proof.Machine
end

section
/-! SUPPORT. The two ways a word is rejected (spec/30_encoding.md R90, R91), each told from the word alone, and
what a step does with a command or with nothing presented (spec/20_memory.md R69, R70). -/

namespace Sys2Proof.Machine

/-! ### Rejected words (R90, R91) -/

theorem unlessReserved_ne_reservedOpcode (z : Bool) (i : Instr) :
    unlessReserved z i ≠ .error .reservedOpcode := by
  cases z <;> simp [unlessReserved]

/-- Only the decoder's last arm names the opcode as the reason. -/
theorem decode_eq_reservedOpcode_iff (w : Word) :
    decode w = .error .reservedOpcode ↔ 0xC ≤ w.toNat / 2 ^ 28 := by
  rw [← opcode_toNat]
  unfold decode
  split
  case h_13 =>
    simp only [imp_false, true_iff] at *
    omega
  all_goals
    next hop => exact iff_of_false (unlessReserved_ne_reservedOpcode _ _) (by rw [hop]; decide)

/-- Under a command's opcode, a bit its format reserves is the reason: no command's encoding has it. -/
theorem decode_eq_reservedBit {w : Word} (hop : w.toNat / 2 ^ 28 ≤ 0xB)
    (hbits : w &&& reservedBits (w.toNat / 2 ^ 28) ≠ 0) : decode w = .error .reservedBit := by
  cases hdec : decode w with
  | ok i =>
    obtain rfl := (decode_eq_ok_iff w i).mp hdec
    rw [← opcode_toNat, opcode_encode] at hbits
    exact absurd (encode_and_reservedBits i) hbits
  | error e =>
    cases e with
    | reservedOpcode => exact absurd ((decode_eq_reservedOpcode_iff w).mp hdec) (by omega)
    | reservedBit => rfl

/-- Settles O4: each word that spells a command is its encoding; the other two have a reserved opcode and a
reserved bit. -/
theorem exampleWordsDecode : Obligations.ExampleWordsDecode :=
  ⟨decode_encode (.cfgw 12 900), decode_encode (.feed .mark 400), decode_encode (.feed .space 1300),
    decode_encode (.sample 0x80), decode_encode (.txload 3 0x12), decode_encode (.txstart 5),
    decode_encode .txstep, decode_encode (.strd 6), (decode_eq_reservedOpcode_iff _).mpr (by decide),
    decode_eq_reservedBit (by decide) (by decide), decode_encode (.cfgw 19 0)⟩

/-! ### The step on a command and on nothing (R69, R70) -/

theorem nextInput_nil {s : State} (h : s.inputs = []) : nextInput s = none := by
  simp only [nextInput, h]

/-- Settles O5: the step takes the word off the queue and runs what it decodes to. -/
theorem stepRunsTheDecodedCommand : Obligations.StepRunsTheDecodedCommand := by
  intro s w rest i hnext hdec
  simp only [step, nextInput_cons hnext, hdec]

/-- Settles O6: there is no next input. -/
theorem nothingHappensBetweenCommands : Obligations.NothingHappensBetweenCommands := by
  intro s hnone
  simp only [step, nextInput_nil hnone]

end Sys2Proof.Machine
end
